-- ==== Sys2Proof/Word.lean ====
section
/-! DEFINITION. The word types of the block (00_scope.md R8, R9): every register, offset and counter is an unsigned
32-bit quantity whose arithmetic wraps modulo 2^32; a FIFO entry has 8 bits; a request word has 35. -/

namespace Sys2Proof

/-- A 32-bit unsigned value: register cell, offset, data operand, counter or bitmap
(R8 `REG_BITS`, `OFFSET_BITS`, `CYCLE_BITS`, `CNT_BITS`). -/
abbrev Word := BitVec 32

/-- A FIFO entry (R8 `FIFO_ENTRY_BITS`). -/
abbrev Byte := BitVec 8

/-- A 35-bit request word: `kind` in bits 34:32, `sel` in bits 31:0 (30_encoding.md R81). -/
abbrev ReqWord := BitVec 35

end Sys2Proof
end

