-- ==== Sys2Proof/Config.lean ====
section
/-! DEFINITION. What the spec leaves as named parameters (00_scope.md R8, 92_eei_decisions.md "Open parameters"), as
constants with no body: nothing can evaluate them, so every claim holds whatever they are. No rule of the block reads
one; the baud codes and the default configuration are read by the host driver only (Machine/Driver.lean). -/

namespace Sys2Proof.Config

/-- `SPI_BASE`, the base address of the register window in a system (20_memory.md R67, decision D35).
OPEN; no rule reads it. -/
opaque spiBase : Nat

/-- `BR_LE_1M`, the baud field value for a rate of at most 1 MHz (45_host_driver.md R193, decision D28). OPEN, 0..7. -/
opaque brLe1M : BitVec 3

/-- `BR_LE_2M`, the baud field value above 1 MHz and up to 2 MHz (R193, D28). OPEN, 0..7. -/
opaque brLe2M : BitVec 3

/-- `BR_GT_2M`, the baud field value above 2 MHz (R193, D28). OPEN, 0..7. -/
opaque brGt2M : BitVec 3

/-- "data size, 8 or 16 bits" (R192). -/
inductive DataSize where
  | bits8
  | bits16
deriving DecidableEq, Repr, Inhabited

/-- "bit order" (R192). The spec names no values; the two of a serial line are PRESUMED (log entry 15).
No register and no rule depends on it. -/
inductive BitOrder where
  | msbFirst
  | lsbFirst
deriving DecidableEq, Repr, Inhabited

/-- The driver's configuration record (45_host_driver.md R192): a host value, no state of the block. -/
structure DriverConfig where
  /-- baud rate, an integer in Hz -/
  baud     : Int
  dataSize : DataSize
  /-- clock polarity, 0 or 1 -/
  cpol     : BitVec 1
  /-- clock phase, 0 or 1 -/
  cpha     : BitVec 1
  bitOrder : BitOrder
  /-- software slave management -/
  ssm      : Bool
  /-- master mode -/
  master   : Bool
deriving DecidableEq, Repr, Inhabited

/-- `DEFAULT_CONFIG`, the driver's default configuration (R192, decision D29). OPEN. -/
opaque defaultConfig : DriverConfig

end Sys2Proof.Config
end

