-- ==== Sys2Proof/Syntax.lean ====
section
/-! DEFINITION. The operations a host applies to the block, one constructor of `Instr` per row of the opcode table
(30_encoding.md R82 to R87), with the names their operands use and the encoded form, `Request`. -/

namespace Sys2Proof

/-- The six FSM states in the source's order (10_state.md R33); their codes 0..5 are in Decode.lean. -/
inductive FsmState where
  | idle
  | txActive
  | rxActive
  | txrxActive
  | error
  | recovery
deriving DecidableEq, Repr

/-- The four addressable registers (10_state.md R38, 20_memory.md R60). -/
inductive RegName where
  | cr1
  | cr2
  | sr
  | dr
deriving DecidableEq, Repr

/-- What a PEEK selector names (30_encoding.md R85): one piece of state, or the number of visited states. -/
inductive PeekItem where
  | cycle
  | state
  | txLevel
  | rxLevel
  | txCount
  | rxCount
  | txHead
  | rxHead
  | matrix (i j : FsmState)
  | visits (s : FsmState)
  | wcov (r : RegName)
  | rcov (r : RegName)
  | txBuf (k : Fin 16)
  | rxBuf (k : Fin 16)
  | visited
deriving DecidableEq, Repr

/-- A host operation (R82, R83). `off` is a 32-bit offset, `v` the separate 32-bit data operand. -/
inductive Instr where
  | rdCr1
  | rdCr2
  | rdSr
  | rdDr
  | rdUnmapped (off : Word)
  | wrCr1 (v : Word)
  | wrCr2 (v : Word)
  | wrSr (v : Word)
  | wrDr (v : Word)
  | wrUnmapped (off v : Word)
  | step
  | reset
  | pokeSr (v : Word)
  | forceState (s : FsmState)
  | peek (item : PeekItem)
deriving DecidableEq, Repr

/-- A host operation in the spec's packaging (R81): the 35-bit request word and the 32-bit data operand. The data
operand is present for WRITE and POKE_SR; for the other kinds nothing reads the field (log entry 2). -/
structure Request where
  word : ReqWord
  data : Word
deriving DecidableEq, Repr

/-- Why a request word has no meaning (30_encoding.md R87): one name for each reserved group. -/
inductive Reject where
  /-- `kind` = 0b111. -/
  | reservedKind
  /-- STEP with `sel` ≠ 0. -/
  | stepWithSelector
  /-- RESET with `sel` ≠ 0. -/
  | resetWithSelector
  /-- POKE_SR with `sel` ≠ 0. -/
  | pokeSrWithSelector
  /-- FORCE_STATE with `sel` ≥ 6. -/
  | reservedStateCode
  /-- PEEK with `sel` ≥ 91. -/
  | reservedPeekSelector
deriving DecidableEq, Repr

end Sys2Proof
end

