-- ==== Sys2Proof/WellFormed.lean ====
section
/-! DEFINITION. When a term of `Instr` stands for an operation of the opcode table. The only constraint the types do not
already carry is that the two unmapped operations name an unmapped offset (30_encoding.md R83, 20_memory.md R61). -/

namespace Sys2Proof

/-- Is `off` one of the four mapped offsets? An exact match on all 32 bits (20_memory.md R60, R62). -/
def mappedOffset (off : Word) : Bool :=
  off == 0x00#32 || off == 0x04#32 || off == 0x08#32 || off == 0x0C#32

/-- An instruction term that some request word encodes. -/
def Instr.wellFormed : Instr → Bool
  | .rdCr1 => true
  | .rdCr2 => true
  | .rdSr => true
  | .rdDr => true
  | .rdUnmapped off => !mappedOffset off
  | .wrCr1 _ => true
  | .wrCr2 _ => true
  | .wrSr _ => true
  | .wrDr _ => true
  | .wrUnmapped off _ => !mappedOffset off
  | .step => true
  | .reset => true
  | .pokeSr _ => true
  | .forceState _ => true
  | .peek _ => true

end Sys2Proof
end

