-- ==== Sys2Proof/Decode.lean ====
section
/-! DEFINITION. Decoding a request to an instruction or a named rejection (30_encoding.md R81 to R88), total on every
request, and after it the encoder. -/

namespace Sys2Proof

/-- `kind`, bits 34:32 of the request word (R81). -/
def kindField (w : ReqWord) : BitVec 3 := w.extractLsb' 32 3

/-- `sel`, bits 31:0 of the request word (R81). -/
def selField (w : ReqWord) : Word := w.extractLsb' 0 32

/-- The register at an offset: an exact match on all 32 bits (R83, 20_memory.md R62). -/
def offsetReg (off : Word) : Option RegName :=
  if off = 0x00#32 then some .cr1
  else if off = 0x04#32 then some .cr2
  else if off = 0x08#32 then some .sr
  else if off = 0x0C#32 then some .dr
  else none

/-- The state a code names (10_state.md R33, R84). -/
def stateOfCode : Nat → Option FsmState
  | 0 => some .idle
  | 1 => some .txActive
  | 2 => some .rxActive
  | 3 => some .txrxActive
  | 4 => some .error
  | 5 => some .recovery
  | _ => none

/-- The register a coverage selector's position names: CR1, CR2, SR, DR in that order (R85). -/
def regOfIndex : Nat → Option RegName
  | 0 => some .cr1
  | 1 => some .cr2
  | 2 => some .sr
  | 3 => some .dr
  | _ => none

/-- The eight single selectors 0..7 (R85). -/
def simplePeek : Nat → Option PeekItem
  | 0 => some .cycle
  | 1 => some .state
  | 2 => some .txLevel
  | 3 => some .rxLevel
  | 4 => some .txCount
  | 5 => some .rxCount
  | 6 => some .txHead
  | 7 => some .rxHead
  | _ => none

/-- The matrix entry at `8 + 6*i + j` (R85), given `6*i + j`. -/
def matrixPeek (n : Nat) : Option PeekItem :=
  match stateOfCode (n / 6), stateOfCode (n % 6) with
  | some i, some j => some (.matrix i j)
  | _, _ => none

/-- The item a PEEK selector names (R85); none for 91 and above. -/
def peekOfSel (n : Nat) : Option PeekItem :=
  if n < 8 then simplePeek n
  else if n < 44 then matrixPeek (n - 8)
  else if n < 50 then (stateOfCode (n - 44)).map .visits
  else if n < 54 then (regOfIndex (n - 50)).map .wcov
  else if n < 58 then (regOfIndex (n - 54)).map .rcov
  else if n < 74 then some (.txBuf (Fin.ofNat 16 (n - 58)))
  else if n < 90 then some (.rxBuf (Fin.ofNat 16 (n - 74)))
  else if n = 90 then some .visited
  else none

/-- READ by offset: the four mapped offsets, then the unmapped row (R83, R88). -/
def decodeRead (off : Word) : Instr :=
  match offsetReg off with
  | some .cr1 => .rdCr1
  | some .cr2 => .rdCr2
  | some .sr => .rdSr
  | some .dr => .rdDr
  | none => .rdUnmapped off

/-- WRITE by offset (R83, R88). -/
def decodeWrite (off v : Word) : Instr :=
  match offsetReg off with
  | some .cr1 => .wrCr1 v
  | some .cr2 => .wrCr2 v
  | some .sr => .wrSr v
  | some .dr => .wrDr v
  | none => .wrUnmapped off v

/-- The decoder (R82, R88): first `kind`, then `sel`. Reserved words are rejected by name (R87). -/
def decode (r : Request) : Except Reject Instr :=
  match (kindField r.word).toNat with
  | 0 => .ok (decodeRead (selField r.word))
  | 1 => .ok (decodeWrite (selField r.word) r.data)
  | 2 => if selField r.word = 0#32 then .ok .step else .error .stepWithSelector
  | 3 => if selField r.word = 0#32 then .ok .reset else .error .resetWithSelector
  | 4 => if selField r.word = 0#32 then .ok (.pokeSr r.data) else .error .pokeSrWithSelector
  | 5 =>
    match stateOfCode (selField r.word).toNat with
    | some s => .ok (.forceState s)
    | none => .error .reservedStateCode
  | 6 =>
    match peekOfSel (selField r.word).toNat with
    | some k => .ok (.peek k)
    | none => .error .reservedPeekSelector
  | _ => .error .reservedKind

/-! The encoder, written from the same tables. -/

/-- `{kind, sel}` (R81). -/
def requestWord (kind : BitVec 3) (sel : Word) : ReqWord := kind ++ sel

/-- The offset of an addressable register (20_memory.md R60). -/
def regOffset : RegName → Word
  | .cr1 => 0x00#32
  | .cr2 => 0x04#32
  | .sr => 0x08#32
  | .dr => 0x0C#32

/-- The numeric code of a state (10_state.md R33). -/
def stateCode : FsmState → Nat
  | .idle => 0
  | .txActive => 1
  | .rxActive => 2
  | .txrxActive => 3
  | .error => 4
  | .recovery => 5

/-- A register's position in the coverage selectors (R85). -/
def regIndex : RegName → Nat
  | .cr1 => 0
  | .cr2 => 1
  | .sr => 2
  | .dr => 3

/-- The PEEK selector of an item (R85). -/
def selOfPeek : PeekItem → Nat
  | .cycle => 0
  | .state => 1
  | .txLevel => 2
  | .rxLevel => 3
  | .txCount => 4
  | .rxCount => 5
  | .txHead => 6
  | .rxHead => 7
  | .matrix i j => 8 + 6 * stateCode i + stateCode j
  | .visits s => 44 + stateCode s
  | .wcov r => 50 + regIndex r
  | .rcov r => 54 + regIndex r
  | .txBuf k => 58 + k.val
  | .rxBuf k => 74 + k.val
  | .visited => 90

/-- The encoder (R81 to R85): the request word, and the data operand of WRITE and POKE_SR (0 where the kind has none). -/
def encode : Instr → Request
  | .rdCr1 => ⟨requestWord 0b000 (regOffset .cr1), 0⟩
  | .rdCr2 => ⟨requestWord 0b000 (regOffset .cr2), 0⟩
  | .rdSr => ⟨requestWord 0b000 (regOffset .sr), 0⟩
  | .rdDr => ⟨requestWord 0b000 (regOffset .dr), 0⟩
  | .rdUnmapped off => ⟨requestWord 0b000 off, 0⟩
  | .wrCr1 v => ⟨requestWord 0b001 (regOffset .cr1), v⟩
  | .wrCr2 v => ⟨requestWord 0b001 (regOffset .cr2), v⟩
  | .wrSr v => ⟨requestWord 0b001 (regOffset .sr), v⟩
  | .wrDr v => ⟨requestWord 0b001 (regOffset .dr), v⟩
  | .wrUnmapped off v => ⟨requestWord 0b001 off, v⟩
  | .step => ⟨requestWord 0b010 0, 0⟩
  | .reset => ⟨requestWord 0b011 0, 0⟩
  | .pokeSr v => ⟨requestWord 0b100 0, v⟩
  | .forceState s => ⟨requestWord 0b101 (BitVec.ofNat 32 (stateCode s)), 0⟩
  | .peek k => ⟨requestWord 0b110 (BitVec.ofNat 32 (selOfPeek k)), 0⟩

/-- Does the request's kind carry the data operand? WRITE and POKE_SR do (R81). -/
def hasData (w : ReqWord) : Bool := kindField w == 0b001#3 || kindField w == 0b100#3

/-- The request that a number of the opcode table's numbering stands for: the request word in bits 34:0, bits 39:35
(the rest of its fifth byte) zero, the data operand, where given, in bits 71:40; a bit at or above `nbits` counts as 0.
A number outside that form is no request of the spec and becomes a word of the reserved kind 0b111 (log entry 3). -/
def tableRequest (nbits w : Nat) : Request :=
  let n := w % 2 ^ nbits
  if n % 2 ^ 40 < 2 ^ 35 ∧ n < 2 ^ 72 then ⟨BitVec.ofNat 35 (n % 2 ^ 40), BitVec.ofNat 32 (n / 2 ^ 40)⟩
  else ⟨requestWord 0b111 0, 0⟩

/-- The instruction the decoder reads from a word numbered as the opcode table numbers it. -/
def decodeTableWord (nbits w : Nat) : Option Instr :=
  match decode (tableRequest nbits w) with
  | .ok i => some i
  | .error _ => none

end Sys2Proof
end

