-- ==== Sys2Proof/Machine/State.lean ====
section
/-! DEFINITION. The state of the machine as plain data: the block's complete record (10_state.md R20) and three fields of
the model itself (the host's pending requests, the value the last operation returned, the output trace), with the
reset state (R40) and the reasons a step can stop. -/

namespace Sys2Proof.Machine

/-- A FIFO record (10_state.md R31): 16 entries, `head` the index of the oldest entry (R32, decision D4), `level` the
number of occupied entries. The bounds 0..15 and 0..16 are in the types. -/
structure Fifo where
  buf   : Vector Byte 16
  head  : Fin 16
  level : Fin 17
deriving DecidableEq, Repr

/-- One value per FSM state (R36, R37). -/
structure PerState (α : Type) where
  idle       : α
  txActive   : α
  rxActive   : α
  txrxActive : α
  error      : α
  recovery   : α
deriving DecidableEq, Repr

/-- The same value for every FSM state. -/
def PerState.uniform {α : Type} (a : α) : PerState α := ⟨a, a, a, a, a, a⟩

/-- One 32-bit coverage bitmap per addressable register (R38). -/
structure PerReg where
  cr1 : Word
  cr2 : Word
  sr  : Word
  dr  : Word
deriving DecidableEq, Repr

/-- A notification to the environment (00_scope.md R7): a byte on the line output, or a change of FSM state. -/
inductive Event where
  | lineOut (b : Byte)
  | stateChange (source target : FsmState)
deriving DecidableEq, Repr

/-- The machine. The first fifteen fields are the block's complete state (R20); DR has no cell (R22). -/
structure State where
  /-- `reg[CR1]` (R23) -/
  cr1      : Word
  /-- `reg[CR2]` (R25) -/
  cr2      : Word
  /-- `reg[SR]` (R26) -/
  sr       : Word
  /-- `crc[0]`, reached by no operation (R22) -/
  crc0     : Word
  /-- `crc[1]`, reached by no operation (R22) -/
  crc1     : Word
  /-- transmit FIFO (R31) -/
  tx       : Fifo
  /-- receive FIFO (R31) -/
  rx       : Fifo
  /-- FSM state (R33) -/
  state    : FsmState
  /-- clock-cycle counter (R34) -/
  cycle    : Word
  /-- transmitted-byte counter (R35) -/
  txcount  : Word
  /-- received-byte counter (R35) -/
  rxcount  : Word
  /-- transition counts, `matrix[from][to]` (R36) -/
  matrix   : PerState (PerState Word)
  /-- visit counters (R37) -/
  visits   : PerState Word
  /-- write coverage bitmaps (R38) -/
  wcov     : PerReg
  /-- read coverage bitmaps (R38) -/
  rcov     : PerReg
  /-- MODEL'S OWN: the operations the host has issued and the block has not begun, oldest first (R6; log entry 1). -/
  requests : List Request
  /-- MODEL'S OWN: the value the last operation returned to the host, none where it returns none (log entry 4). -/
  result   : Option Word
  /-- MODEL'S OWN: the output trace, oldest event first (R7; log entry 5). -/
  trace    : List Event
deriving DecidableEq, Repr

/-- No operation of the block stops with a fault: "The block raises no exception, fault, trap or error signal"
(60_exceptions.md R230). Nobody raises one, so the type has no constructor; this is safe. -/
inductive Fault where
deriving DecidableEq, Repr

/-- Why the machine gives no meaning. -/
inductive Refusal where
  /-- An instruction rejected by name because it has no meaning yet. Raised by `exec` alone, in an arm still to be
  written. Safe. -/
  | notModelled (mnemonic : String)
  /-- The next request word is reserved (30_encoding.md R87): "A model must not execute them as any operation and must
  not treat them as a no-op". Raised by `step` alone, when the decoder rejects the word. Safe (decision D38). -/
  | reservedRequest (why : Reject)
deriving DecidableEq, Repr

/-- A FIFO after reset: 16 zero entries, head 0, level 0 (R40). -/
def Fifo.empty : Fifo := ⟨Vector.replicate 16 0#8, 0, 0⟩

/-- The machine right after reset (R40, 70_reset_and_hazards.md R250): everything zero, IDLE, but SR = 0x00000002
(TXE = 1). The model's own fields start with no request, no result and an empty trace (log entries 1, 4, 5). -/
def State.reset : State where
  cr1 := 0
  cr2 := 0
  sr := 0x00000002
  crc0 := 0
  crc1 := 0
  tx := Fifo.empty
  rx := Fifo.empty
  state := .idle
  cycle := 0
  txcount := 0
  rxcount := 0
  matrix := PerState.uniform (PerState.uniform 0)
  visits := PerState.uniform 0
  wcov := ⟨0, 0, 0, 0⟩
  rcov := ⟨0, 0, 0, 0⟩
  requests := []
  result := none
  trace := []

end Sys2Proof.Machine
end

