-- ==== Sys2Proof/Machine/Flags.lean ====
section
/-! DEFINITION. The fields of the register values (10_state.md R23 to R29, 30_encoding.md R89) and the two SR bits the
block computes, RXNE and TXE (R27). -/

namespace Sys2Proof.Machine

/-- `v[i] <- b`, the other 31 bits unchanged (00_scope.md R10). -/
def setBit (v : Word) (i : Nat) (b : Bool) : Word :=
  if b then v ||| (1#32 <<< i) else v &&& ~~~(1#32 <<< i)

/-! CR1 (R23). Only SPE is consumed by the block (R24). -/

/-- CR1 bit 0, "clock phase". -/
def cpha (cr1 : Word) : Bool := cr1.getLsbD 0
/-- CR1 bit 1, "clock polarity". -/
def cpol (cr1 : Word) : Bool := cr1.getLsbD 1
/-- CR1 bit 2, "master-mode". -/
def mstr (cr1 : Word) : Bool := cr1.getLsbD 2
/-- CR1 bits 5:3, "baud-rate prescaler selector". -/
def br (cr1 : Word) : BitVec 3 := cr1.extractLsb' 3 3
/-- CR1 bit 6, "peripheral enable" (R89). -/
def spe (cr1 : Word) : Bool := cr1.getLsbD 6
/-- CR1 bit 11, "16-bit data-frame flag". -/
def dff (cr1 : Word) : Bool := cr1.getLsbD 11

/-- CR2 bit 2, "software-slave-management" (R25). -/
def ssm (cr2 : Word) : Bool := cr2.getLsbD 2

/-! SR (R26). -/

/-- SR bit 0, "receive-data-ready". -/
def rxne (sr : Word) : Bool := sr.getLsbD 0
/-- SR bit 1, "transmit-ready" (R89). -/
def txe (sr : Word) : Bool := sr.getLsbD 1
/-- SR bits 6:4, the "generic error indicators" ERR2, ERR1, ERR0 (R28, R89). -/
def err (sr : Word) : BitVec 3 := sr.extractLsb' 4 3
/-- SR bit 7, "busy"; the block never writes it (R29). -/
def bsy (sr : Word) : Bool := sr.getLsbD 7

/-- `reg[SR][0] <- b` (41_clock_step.md R143, 40_register_access.md R110). -/
def withRxne (b : Bool) (sr : Word) : Word := setBit sr 0 b

/-- `reg[SR][1] <- b` (41_clock_step.md R147). -/
def withTxe (b : Bool) (sr : Word) : Word := setBit sr 1 b

/-- TXE as a step recomputes it: "set when transmit-FIFO level is below capacity, cleared otherwise" (R147). -/
def txeOf (tx : Fifo) : Bool := decide (tx.level.val < 16)

end Sys2Proof.Machine
end

