-- ==== Sys2Proof/Machine/Operands.lean ====
section
/-! DEFINITION. The operand forms: byte lanes of a 32-bit value (20_memory.md R63), values indexed by FSM state or by
register, and the item a PEEK selector names (30_encoding.md R85). -/

namespace Sys2Proof.Machine

/-- Byte lane `k` of a value, bits 8k+7..8k; lane 0 is the least significant byte (R63). -/
def byteLane (v : Word) (k : Nat) : Byte := v.extractLsb' (8 * k) 8

/-- The byte of a DR write, `v[7:0]` = lane 0 (R63, 40_register_access.md R104). -/
def lowByte (v : Word) : Byte := byteLane v 0

/-- `zext_32(b)` (00_scope.md R9). -/
def zext (b : Byte) : Word := b.setWidth 32

/-- The value held for a state. -/
def PerState.get {α : Type} (p : PerState α) : FsmState → α
  | .idle => p.idle
  | .txActive => p.txActive
  | .rxActive => p.rxActive
  | .txrxActive => p.txrxActive
  | .error => p.error
  | .recovery => p.recovery

/-- Replace the value held for a state. -/
def PerState.set {α : Type} (p : PerState α) (s : FsmState) (a : α) : PerState α :=
  match s with
  | .idle => { p with idle := a }
  | .txActive => { p with txActive := a }
  | .rxActive => { p with rxActive := a }
  | .txrxActive => { p with txrxActive := a }
  | .error => { p with error := a }
  | .recovery => { p with recovery := a }

/-- The bitmap of a register. -/
def PerReg.get (p : PerReg) : RegName → Word
  | .cr1 => p.cr1
  | .cr2 => p.cr2
  | .sr => p.sr
  | .dr => p.dr

/-- Replace the bitmap of a register. -/
def PerReg.set (p : PerReg) (r : RegName) (v : Word) : PerReg :=
  match r with
  | .cr1 => { p with cr1 := v }
  | .cr2 => { p with cr2 := v }
  | .sr => { p with sr := v }
  | .dr => { p with dr := v }

/-- `matrix[from][to]` (10_state.md R36). -/
def matrixEntry (s : State) (i j : FsmState) : Word := (s.matrix.get i).get j

/-- The six states, in code order (R33). -/
def allStates : List FsmState := [.idle, .txActive, .rxActive, .txrxActive, .error, .recovery]

/-- `visited`, the number of states with a non-zero visit counter (41_clock_step.md R153). -/
def visitedCount (s : State) : Nat := (allStates.filter fun q => s.visits.get q != 0#32).length

/-- The state-coverage metric in percent, an exact rational (R153, decision D23). -/
def stateCoverage (s : State) : Rat := (visitedCount s : Rat) * 100 / 6

/-- `zext_32(item(k))` (42_control_ops.md R173): the state component the selector names (30_encoding.md R85). -/
def peekValue (s : State) : PeekItem → Word
  | .cycle => s.cycle
  | .state => BitVec.ofNat 32 (stateCode s.state)
  | .txLevel => BitVec.ofNat 32 s.tx.level.val
  | .rxLevel => BitVec.ofNat 32 s.rx.level.val
  | .txCount => s.txcount
  | .rxCount => s.rxcount
  | .txHead => BitVec.ofNat 32 s.tx.head.val
  | .rxHead => BitVec.ofNat 32 s.rx.head.val
  | .matrix i j => matrixEntry s i j
  | .visits q => s.visits.get q
  | .wcov r => s.wcov.get r
  | .rcov r => s.rcov.get r
  | .txBuf k => zext s.tx.buf[k]
  | .rxBuf k => zext s.rx.buf[k]
  | .visited => BitVec.ofNat 32 (visitedCount s)

end Sys2Proof.Machine
end

