-- ==== Sys2Proof/Machine/Ops.lean ====
section
/-! DEFINITION. The named operations the meanings are built from: the FIFO primitives (41_clock_step.md R130, R131), the
transition tracker (R133), coverage (10_state.md R38), the counters, the register cells, the output trace and the value
returned to the host, and taking the host's next request.

TAKING AN EXCEPTION, and the return from one, do not exist on this hardware: "The block saves no state, changes no mode
and jumps to no vector on any condition" (60_exceptions.md R234), "The block raises no exception" (R230). -/

namespace Sys2Proof.Machine

/-! FIFO primitives. -/

/-- The occupied entries, oldest first: `buf[(head + k) mod 16]` for k = 0 .. level-1 (10_state.md R31). -/
def Fifo.contents (f : Fifo) : List Byte :=
  (List.range f.level.val).map fun k => f.buf[(f.head.val + k) % 16]'(Nat.mod_lt _ (by decide))

/-- Push (R130), for `level < 16`: the byte goes to `buf[(head + level) mod 16]` and the level grows by one. "Push is
never applied to a full FIFO"; the function is total and leaves a full FIFO as it is (log entry 6). -/
def Fifo.push (f : Fifo) (b : Byte) : Fifo :=
  if h : f.level.val < 16 then
    { buf := f.buf.set ((f.head.val + f.level.val) % 16) b (Nat.mod_lt _ (by decide))
      head := f.head
      level := ⟨f.level.val + 1, by omega⟩ }
  else f

/-- The byte a pop returns, `buf[head]` (R131). -/
def Fifo.front (f : Fifo) : Byte := f.buf[f.head]

/-- Pop (R131), for `level > 0`: the head advances modulo 16, the level falls by one, the entry keeps its stale byte.
A pop from an empty FIFO "never happens" (R132); the function leaves an empty FIFO as it is (log entry 6). -/
def Fifo.pop (f : Fifo) : Fifo :=
  if 0 < f.level.val then
    { buf := f.buf
      head := Fin.ofNat 16 (f.head.val + 1)
      level := ⟨f.level.val - 1, by omega⟩ }
  else f

/-! Updates of one component each. -/

/-- `reg[CR1] <- v` -/
def setCr1 (v : Word) (s : State) : State := { s with cr1 := v }

/-- `reg[CR2] <- v` -/
def setCr2 (v : Word) (s : State) : State := { s with cr2 := v }

/-- `reg[SR] <- v` -/
def setSr (v : Word) (s : State) : State := { s with sr := v }

/-- `TxPush(b)` (R130) -/
def txPush (b : Byte) (s : State) : State := { s with tx := s.tx.push b }

/-- The state part of `TxPop()` (R131); the byte is `s.tx.front`. -/
def txPop (s : State) : State := { s with tx := s.tx.pop }

/-- `RxPush(b)` (R130) -/
def rxPush (b : Byte) (s : State) : State := { s with rx := s.rx.push b }

/-- The state part of `RxPop()` (R131); the byte is `s.rx.front`. -/
def rxPop (s : State) : State := { s with rx := s.rx.pop }

/-- `cycle <- cycle +32 1` (R135) -/
def tickCycle (s : State) : State := { s with cycle := s.cycle + 1 }

/-- `txcount <- txcount +32 1` (10_state.md R35) -/
def countTx (s : State) : State := { s with txcount := s.txcount + 1 }

/-- `rxcount <- rxcount +32 1` (10_state.md R35) -/
def countRx (s : State) : State := { s with rxcount := s.rxcount + 1 }

/-- `wcov[R] <- wcov[R] | v` (40_register_access.md R100) -/
def coverWrite (r : RegName) (v : Word) (s : State) : State := { s with wcov := s.wcov.set r (s.wcov.get r ||| v) }

/-- `rcov[R] <- rcov[R] | r` (40_register_access.md R106) -/
def coverRead (r : RegName) (v : Word) (s : State) : State := { s with rcov := s.rcov.set r (s.rcov.get r ||| v) }

/-- `emit e`: append an event to the output trace (00_scope.md R10). -/
def emit (e : Event) (s : State) : State := { s with trace := s.trace ++ [e] }

/-- End an operation: what it returns to the host, none where it returns nothing. -/
def answer (r : Option Word) (s : State) : State := { s with result := r }

/-- The tracker's counts for a change to `new`: the matrix entry and the visit counter grow by one (R133). -/
def recordChange (new : FsmState) (s : State) : State :=
  { s with
    matrix := s.matrix.set s.state ((s.matrix.get s.state).set new (matrixEntry s s.state new + 1))
    visits := s.visits.set new (s.visits.get new + 1) }

/-- SetState, the transition tracker (R133): a change counts in `matrix` and `visits`, emits StateChange, and takes
effect; a self-transition is nothing at all. -/
def setState (new : FsmState) (s : State) : State :=
  if new = s.state then s
  else { emit (.stateChange s.state new) (recordChange new s) with state := new }

/-! The host's requests (log entry 1). -/

/-- The host's next request and the state in which the block performs it; none when the host has issued nothing more. -/
def takeRequest (s : State) : Option (Request × State) :=
  match s.requests with
  | [] => none
  | r :: rest => some (r, { s with requests := rest })

/-- The state in which the request is the next one the block takes. -/
def placeRequest (r : Request) (s : State) : State := { s with requests := r :: s.requests }

end Sys2Proof.Machine
end

