-- ==== Sys2Proof/Machine/ClockStep.lean ====
section
/-! DEFINITION. STEP, one clock advancement (41_clock_step.md R134 to R147): the cycle increment, the disable check, one
state's arm, the TXE recompute. -/

namespace Sys2Proof.Machine

/-- RecomputeTXE (R147). -/
def recomputeTxe (s : State) : State := setSr (withTxe (txeOf s.tx) s.sr) s

/-- IDLE arm (R138). -/
def stepIdle (s : State) : State :=
  if 0 < s.tx.level.val ∨ txe s.sr = true then setState .txActive s else s

/-- LoopBack (R141): the received byte is the complement of the byte sent; dropped when `rx` is full. -/
def loopBack (b : Byte) (s : State) : State :=
  if s.rx.level.val < 16 then rxPush (~~~b) s else s

/-- The dequeue part of the TX_ACTIVE arm (R139, R140): at most one byte moves. -/
def shiftOut (s : State) : State :=
  if 0 < s.tx.level.val then countTx (loopBack s.tx.front (emit (.lineOut s.tx.front) (txPop s))) else s

/-- TxExit (R142), kept literally: the exit needs TXE CLEAR (90_conflicts.md C1, decision D13; log entry 9). -/
def txExit (s : State) : State :=
  if s.tx.level.val = 0 ∧ txe s.sr = false then
    if 0 < s.rx.level.val then setState .rxActive s else setState .idle s
  else s

/-- TX_ACTIVE arm (R139, R142). -/
def stepTx (s : State) : State := txExit (shiftOut s)

/-- RX_ACTIVE arm (R143): the arm pops nothing. -/
def stepRx (s : State) : State :=
  if 0 < s.rx.level.val then setSr (withRxne true s.sr) s
  else setState .idle (setSr (withRxne false s.sr) s)

/-- TXRX_ACTIVE arm (R144): nothing. -/
def stepTxrx (s : State) : State := s

/-- ERROR arm (R145). -/
def stepError (s : State) : State := if err s.sr = 0b000#3 then setState .recovery s else s

/-- RECOVERY arm (R146): `cycle` is the value already incremented by this step. -/
def stepRecovery (s : State) : State := if s.cycle.toNat % 10 = 0 then setState .idle s else s

/-- Dispatch (R137): exactly one arm, that of the state current before the step. -/
def stateArm (s : State) : State :=
  match s.state with
  | .idle => stepIdle s
  | .txActive => stepTx s
  | .rxActive => stepRx s
  | .txrxActive => stepTxrx s
  | .error => stepError s
  | .recovery => stepRecovery s

/-- `Step()` (R134): R135, then R136 for a disabled block, else one arm (R137) and R147. -/
def clockStep (s : State) : State :=
  let s := tickCycle s
  if spe s.cr1 = true then recomputeTxe (stateArm s) else setState .idle s

/-- STEP (R134). -/
def execStep (s : State) : Host.Outcome State Fault Refusal := .next (answer none (clockStep s))

end Sys2Proof.Machine
end

