-- ==== Sys2Proof/Machine/Control.lean ====
section
/-! DEFINITION. RESET, the two test-harness bypasses and PEEK (42_control_ops.md R170 to R173). -/

namespace Sys2Proof.Machine

/-- `Reset()` (R170): every component of the block's record takes its power-on value, the state directly and not through
SetState. Events already emitted stay in the trace, and the host's further requests stay pending. -/
def resetBlock (s : State) : State := { State.reset with requests := s.requests, trace := s.trace }

/-- RESET (R170). -/
def execReset (s : State) : Host.Outcome State Fault Refusal := .next (answer none (resetBlock s))

/-- POKE_SR (R171): like WR_SR, but no write coverage. -/
def execPokeSr (v : Word) (s : State) : Host.Outcome State Fault Refusal := .next (answer none (setSr v s))

/-- FORCE_STATE (R172): through SetState, so counted and emitted like any state change. -/
def execForceState (q : FsmState) (s : State) : Host.Outcome State Fault Refusal := .next (answer none (setState q s))

/-- PEEK (R173): returns the item and changes nothing. -/
def execPeek (item : PeekItem) (s : State) : Host.Outcome State Fault Refusal :=
  .next (answer (some (peekValue s item)) s)

end Sys2Proof.Machine
end

