-- ==== Sys2Proof/Machine/RegisterRead.lean ====
section
/-! DEFINITION. READ (40_register_access.md R106 to R111): the register's own part, then read coverage from the value
returned. -/

namespace Sys2Proof.Machine

/-- End a read of a mapped register: `rcov[R] <- rcov[R] | r; return r` (R106). -/
def finishRead (reg : RegName) (r : Word) (s : State) : State := answer (some r) (coverRead reg r s)

/-- The value RD_DR returns (R110): the oldest received byte zero-extended, 0 when the FIFO is empty. -/
def drReadValue (s : State) : Word := if 0 < s.rx.level.val then zext s.rx.front else 0x00000000

/-- "if rx.level == 0 then reg[SR][0] <- 0", tested after the pop (R110). -/
def clearRxneIfDrained (s : State) : State :=
  if s.rx.level.val = 0 then setSr (withRxne false s.sr) s else s

/-- What RD_DR does to the FIFO, the counter and RXNE (R110): nothing at all when the FIFO is empty (decision D8). -/
def drReadPop (s : State) : State :=
  if 0 < s.rx.level.val then clearRxneIfDrained (countRx (rxPop s)) else s

/-- RD_CR1 (R107). -/
def execRdCr1 (s : State) : Host.Outcome State Fault Refusal := .next (finishRead .cr1 s.cr1 s)

/-- RD_CR2 (R108). -/
def execRdCr2 (s : State) : Host.Outcome State Fault Refusal := .next (finishRead .cr2 s.cr2 s)

/-- RD_SR (R109). "Reading SR clears nothing." -/
def execRdSr (s : State) : Host.Outcome State Fault Refusal := .next (finishRead .sr s.sr s)

/-- RD_DR (R110). -/
def execRdDr (s : State) : Host.Outcome State Fault Refusal := .next (finishRead .dr (drReadValue s) (drReadPop s))

/-- RD_UNMAPPED (R111): returns 0, no state changes, no coverage; the offset is not looked at. -/
def execRdUnmapped (_off : Word) (s : State) : Host.Outcome State Fault Refusal := .next (answer (some 0x00000000) s)

end Sys2Proof.Machine
end

