-- ==== Sys2Proof/Machine/RegisterWrite.lean ====
section
/-! DEFINITION. WRITE (40_register_access.md R100 to R105): write coverage of the whole 32-bit value first, then the
register's own effect. A write returns nothing. -/

namespace Sys2Proof.Machine

/-- WR_DR after its coverage update (R104): push lane 0 and count it, or drop the write when the FIFO holds 16 bytes. -/
def drWritePush (v : Word) (s : State) : State :=
  if s.tx.level.val < 16 then countTx (txPush (lowByte v) s) else s

/-- WR_CR1 (R101). -/
def execWrCr1 (v : Word) (s : State) : Host.Outcome State Fault Refusal :=
  .next (answer none (setCr1 v (coverWrite .cr1 v s)))

/-- WR_CR2 (R102). -/
def execWrCr2 (v : Word) (s : State) : Host.Outcome State Fault Refusal :=
  .next (answer none (setCr2 v (coverWrite .cr2 v s)))

/-- WR_SR (R103): all 32 bits, verbatim. -/
def execWrSr (v : Word) (s : State) : Host.Outcome State Fault Refusal :=
  .next (answer none (setSr v (coverWrite .sr v s)))

/-- WR_DR (R104). Coverage is recorded even when the byte is dropped (R100, decision D7). -/
def execWrDr (v : Word) (s : State) : Host.Outcome State Fault Refusal :=
  .next (answer none (drWritePush v (coverWrite .dr v s)))

/-- WR_UNMAPPED (R105): no state changes, no coverage; neither operand is looked at. -/
def execWrUnmapped (_off _v : Word) (s : State) : Host.Outcome State Fault Refusal := .next (answer none s)

end Sys2Proof.Machine
end

