-- ==== Sys2Proof/Machine/Dispatch.lean ====
section
/-! DEFINITION. One arm per operation of the opcode table. -/

namespace Sys2Proof.Machine

def exec (i : Instr) (s : State) : Host.Outcome State Fault Refusal :=
  match i with
  | .rdCr1 => Sys2Proof.Machine.execRdCr1 s
  | .rdCr2 => Sys2Proof.Machine.execRdCr2 s
  | .rdSr => Sys2Proof.Machine.execRdSr s
  | .rdDr => Sys2Proof.Machine.execRdDr s
  | .rdUnmapped off => Sys2Proof.Machine.execRdUnmapped off s
  | .wrCr1 v => Sys2Proof.Machine.execWrCr1 v s
  | .wrCr2 v => Sys2Proof.Machine.execWrCr2 v s
  | .wrSr v => Sys2Proof.Machine.execWrSr v s
  | .wrDr v => Sys2Proof.Machine.execWrDr v s
  | .wrUnmapped off v => Sys2Proof.Machine.execWrUnmapped off v s
  | .step => Sys2Proof.Machine.execStep s
  | .reset => Sys2Proof.Machine.execReset s
  | .pokeSr v => Sys2Proof.Machine.execPokeSr v s
  | .forceState q => Sys2Proof.Machine.execForceState q s
  | .peek item => Sys2Proof.Machine.execPeek item s

end Sys2Proof.Machine
end

