-- ==== Sys2Proof/Machine/Step.lean ====
section
/-! DEFINITION. One step of the machine: the block performs the host's next request, whole (00_scope.md R6). -/

namespace Sys2Proof.Machine

/-- Perform the host's next request: decode it and run it, or refuse a reserved word (30_encoding.md R87). When the host
has issued nothing, the passive block stays as it is (R6: "Its state changes only inside an operation the host
issues"; log entry 1). -/
def step (s : State) : Host.Outcome State Fault Refusal :=
  match takeRequest s with
  | none => .next s
  | some (r, s') =>
    match decode r with
    | .ok i => exec i s'
    | .error e => .refused (.reservedRequest e)

/-- The state in which the very next step runs the instruction of a table word: its request goes in front of the host's
pending requests, and nothing else changes. -/
def State.withFetchWord (s : State) (nbits w : Nat) : State := placeRequest (tableRequest nbits w) s

end Sys2Proof.Machine
end

