-- ==== Sys2Proof/Machine/Issue.lean ====
section
/-! DEFINITION. The host's side of one operation (00_scope.md R6, R10): issue it, read what it returned, and the two
register-interface operations by offset. Shared by the driver and the assembler's pseudo-operations. -/

namespace Sys2Proof.Machine

/-- The state after the host issued `i`. "Every operation of 30_encoding.md completes" (60_exceptions.md R230): the
outcome is always a next state, so the last arms are never taken (Laws/Issue.lean, `exec_eq_issue`). -/
def issue (i : Instr) (s : State) : State :=
  match exec i s with
  | .next t => t
  | .fault _ => s
  | .refused _ => s

/-- The value the last operation returned. -/
def returned (s : State) : Word := s.result.getD 0

/-- Issue operations in order. -/
def issueAll (is : List Instr) (s : State) : State := is.foldl (fun t i => issue i t) s

/-- `BusWrite(off, v)` (R10, 40_register_access.md R100). -/
def busWrite (off v : Word) (s : State) : State := issue (decodeWrite off v) s

/-- `BusRead(off)` (R10, 40_register_access.md R106); the value is `returned` of the result. -/
def busRead (off : Word) (s : State) : State := issue (decodeRead off) s

/-- `Step()` repeated `n` times. -/
def steps : Nat → State → State
  | 0, s => s
  | n + 1, s => steps n (issue .step s)

end Sys2Proof.Machine
end

