-- ==== Sys2Proof/Machine/Asm.lean ====
section
/-! DEFINITION. The textual syntax for operations (30_encoding.md R90) and the pseudo-operations with their expansions
(R91). It is notation of the spec for its vectors and programs; no rule of the block depends on it. -/

namespace Sys2Proof.Asm

open Sys2Proof.Machine

/-- The registers `setbits` and `clrbits` take (R91). -/
inductive CellReg where
  | cr1
  | cr2
  | sr
deriving DecidableEq, Repr

/-- One line: an operation (R90), a pseudo-operation (R91), or nothing (a comment). -/
inductive Line where
  | op (i : Instr)
  | stepN (n : Nat)
  | wrDrList (vs : List Word)
  | setbits (r : CellReg) (m : Word)
  | clrbits (r : CellReg) (m : Word)
  | blank
deriving DecidableEq, Repr

/-- The read of a read-modify-write: "a real READ". -/
def readOf : CellReg → Instr
  | .cr1 => .rdCr1
  | .cr2 => .rdCr2
  | .sr => .rdSr

/-- The write of a read-modify-write. -/
def writeOf (r : CellReg) (v : Word) : Instr :=
  match r with
  | .cr1 => .wrCr1 v
  | .cr2 => .wrCr2 v
  | .sr => .wrSr v

/-- The operations a line expands to (R91); `readValue` is what the `rd` of `setbits` or `clrbits` returns. -/
def expand (readValue : Word) : Line → List Instr
  | .op i => [i]
  | .stepN n => List.replicate n .step
  | .wrDrList vs => vs.map .wrDr
  | .setbits r m => [readOf r, writeOf r (readValue ||| m)]
  | .clrbits r m => [readOf r, writeOf r (readValue &&& ~~~m)]
  | .blank => []

/-- The value the register named by a `setbits` or `clrbits` line reads as. -/
def lineReadValue (s : State) : Line → Word
  | .setbits r _ => returned (issue (readOf r) s)
  | .clrbits r _ => returned (issue (readOf r) s)
  | .op _ => 0
  | .stepN _ => 0
  | .wrDrList _ => 0
  | .blank => 0

/-- Issue the operations of a line. -/
def runLine (l : Line) (s : State) : State := issueAll (expand (lineReadValue s l) l) s

/-! The text of a line. -/

/-- The pieces of a line: words, and the three marks. -/
inductive Token where
  | word (w : List Char)
  | comma
  | lbracket
  | rbracket
deriving DecidableEq, Repr

/-- A finished word, if any character of one was read. -/
def flushWord (cur : List Char) : List Token := if cur = [] then [] else [.word cur]

/-- Cut a line into tokens; `cur` is the word being read. "`;` starting a comment" (R90). -/
def tokenizeFrom (cur : List Char) : List Char → List Token
  | [] => flushWord cur
  | c :: cs =>
    if c = ';' then flushWord cur
    else if c = ' ' ∨ c = '\t' then flushWord cur ++ tokenizeFrom [] cs
    else if c = ',' then flushWord cur ++ .comma :: tokenizeFrom [] cs
    else if c = '[' then flushWord cur ++ .lbracket :: tokenizeFrom [] cs
    else if c = ']' then flushWord cur ++ .rbracket :: tokenizeFrom [] cs
    else tokenizeFrom (cur ++ [c]) cs

/-- The value of a digit, decimal or hexadecimal. -/
def digitValue (c : Char) : Option Nat :=
  let n := c.toNat
  if 48 ≤ n ∧ n ≤ 57 then some (n - 48)
  else if 97 ≤ n ∧ n ≤ 102 then some (n - 87)
  else if 65 ≤ n ∧ n ≤ 70 then some (n - 55)
  else none

/-- The number some digits spell in a base, most significant first. -/
def digits (base : Nat) : Nat → List Char → Option Nat
  | acc, [] => some acc
  | acc, c :: cs =>
    match digitValue c with
    | some d => if d < base then digits base (acc * base + d) cs else none
    | none => none

/-- "Numbers are written in hexadecimal `0x..` or decimal" (R90). -/
def number : List Char → Option Nat
  | [] => none
  | '0' :: 'x' :: cs => if cs = [] then none else digits 16 0 cs
  | cs => digits 10 0 cs

/-- A number that fits 32 bits. -/
def number32 (w : List Char) : Option Word :=
  match number w with
  | some n => if n < 2 ^ 32 then some (BitVec.ofNat 32 n) else none
  | none => none

/-- A register name (R90). -/
def regName (w : List Char) : Option RegName :=
  if w = ['C', 'R', '1'] then some .cr1
  else if w = ['C', 'R', '2'] then some .cr2
  else if w = ['S', 'R'] then some .sr
  else if w = ['D', 'R'] then some .dr
  else none

/-- An offset: a register name or a number (R90). -/
def offset (w : List Char) : Option Word :=
  match regName w with
  | some r => some (regOffset r)
  | none => number32 w

/-- "a state name or code" (R90). -/
def stateRef (w : List Char) : Option FsmState :=
  if w = "IDLE".toList then some .idle
  else if w = "TX_ACTIVE".toList then some .txActive
  else if w = "RX_ACTIVE".toList then some .rxActive
  else if w = "TXRX_ACTIVE".toList then some .txrxActive
  else if w = "ERROR".toList then some .error
  else if w = "RECOVERY".toList then some .recovery
  else (number w).bind stateOfCode

/-- A buffer index 0..15. -/
def bufIndex (w : List Char) : Option (Fin 16) :=
  match number w with
  | some n => if h : n < 16 then some ⟨n, h⟩ else none
  | none => none

/-- A PEEK name without an index (R90). -/
def peekName (w : List Char) : Option PeekItem :=
  if w = "cycle".toList then some .cycle
  else if w = "state".toList then some .state
  else if w = "txlevel".toList then some .txLevel
  else if w = "rxlevel".toList then some .rxLevel
  else if w = "txcount".toList then some .txCount
  else if w = "rxcount".toList then some .rxCount
  else if w = "txhead".toList then some .txHead
  else if w = "rxhead".toList then some .rxHead
  else if w = "visited".toList then some .visited
  else none

/-- A PEEK name with one index (R90). -/
def peekIndexed (w k : List Char) : Option PeekItem :=
  if w = "visits".toList then (stateRef k).map .visits
  else if w = "wcov".toList then (regName k).map .wcov
  else if w = "rcov".toList then (regName k).map .rcov
  else if w = "txbuf".toList then (bufIndex k).map .txBuf
  else if w = "rxbuf".toList then (bufIndex k).map .rxBuf
  else none

/-- The NAME of a `peek` line (R90). -/
def peekRef : List Token → Option PeekItem
  | [.word w] => peekName w
  | [.word w, .lbracket, .word k, .rbracket] => peekIndexed w k
  | [.word w, .lbracket, .word i, .rbracket, .lbracket, .word j, .rbracket] =>
    if w = "matrix".toList then
      match stateRef i, stateRef j with
      | some i, some j => some (.matrix i j)
      | _, _ => none
    else none
  | _ => none

/-- The values `b0, b1, ..., bn]` of a `wr DR` list (R91). -/
def valueList : List Token → Option (List Word)
  | [.word v, .rbracket] => (number32 v).map fun x => [x]
  | .word v :: .comma :: rest =>
    match number32 v, valueList rest with
    | some x, some xs => some (x :: xs)
    | _, _ => none
  | _ => none

/-- The operands of a `wr` line (R90, R91). -/
def wrLine : List Token → Option Line
  | [.word a, .comma, .word v] =>
    match offset a, number32 v with
    | some off, some v => some (.op (decodeWrite off v))
    | _, _ => none
  | .word a :: .comma :: .lbracket :: rest =>
    if a = ['D', 'R'] then (valueList rest).map .wrDrList else none
  | _ => none

/-- The register and mask of a `setbits` or `clrbits` line (R91). -/
def cellAndMask : List Token → Option (CellReg × Word)
  | [.word a, .comma, .word m] =>
    match regName a, number32 m with
    | some .cr1, some m => some (.cr1, m)
    | some .cr2, some m => some (.cr2, m)
    | some .sr, some m => some (.sr, m)
    | _, _ => none
  | _ => none

/-- The operands of a `step` line: none, or a count (R90, R91). -/
def stepLine : List Token → Option Line
  | [] => some (.op .step)
  | [.word n] => (number n).map .stepN
  | _ => none

/-- A line with one operand word. -/
def oneWord {α : Type} (f : List Char → Option α) : List Token → Option α
  | [.word w] => f w
  | _ => none

/-- A line from its tokens (R90, R91). -/
def lineOf : List Token → Option Line
  | [] => some .blank
  | .word m :: args =>
    if m = "rd".toList then (oneWord offset args).map fun off => .op (decodeRead off)
    else if m = "wr".toList then wrLine args
    else if m = "step".toList then stepLine args
    else if m = "reset".toList then (if args = [] then some (.op .reset) else none)
    else if m = "poke_sr".toList then (oneWord number32 args).map fun v => .op (.pokeSr v)
    else if m = "force_state".toList then (oneWord stateRef args).map fun q => .op (.forceState q)
    else if m = "peek".toList then (peekRef args).map fun k => .op (.peek k)
    else if m = "setbits".toList then (cellAndMask args).map fun p => .setbits p.1 p.2
    else if m = "clrbits".toList then (cellAndMask args).map fun p => .clrbits p.1 p.2
    else none
  | _ => none

/-- A line from its text. -/
def parseLine (text : List Char) : Option Line := lineOf (tokenizeFrom [] text)

end Sys2Proof.Asm
end

