-- ==== Sys2Proof/Machine/Driver.lean ====
section
/-! DEFINITION. The host reference driver (45_host_driver.md R190 to R210): software on the host, OUTSIDE the block
(00_scope.md R4). Its state is no part of `State`; it owns one block and works on it only by issuing operations. -/

namespace Sys2Proof.Driver

open Sys2Proof.Machine Sys2Proof.Config

/-- Result kinds (R209): symbols, with no numeric value. -/
inductive Result where
  | ok
  | invalidArgument
  | timeout
  | busy
  | unsupportedMode
  | allocationFailure
deriving DecidableEq, Repr

/-- "cumulative statistics" (R191), 32-bit and wrapping (decision D26). -/
structure Stats where
  transfers : Word
  bytes     : Word
  latency   : Word
  errors    : Word
deriving DecidableEq, Repr

/-- A call of the driver's interface (R195, R197, R204 to R208). -/
inductive Call where
  | init (created : Bool) (cfg? : Option DriverConfig)
  | transfer (tx : Option (List Byte)) (rxPresent : Bool) (timeoutMs : Word)
  | setBaudrate (baud : Int)
  | getStatus
  | getEfficiency
  | dma
  | deinitialize
deriving DecidableEq, Repr

/-- What a call answers: a result code; for a transfer also the leading entries of `rx` it wrote; for get-efficiency the
percentage. -/
inductive Reply where
  | code (r : Result)
  | transferred (r : Result) (received : List Byte)
  | percentage (q : Rat)
deriving DecidableEq, Repr

/-- A hook, "a host procedure" (R203): it ends, or issues a block operation and goes on with what that returned, or calls
the driver and goes on with what that answered (log entry 16). -/
inductive Hook where
  | done
  | op (i : Instr) (next : Option Word → Hook)
  | call (c : Call) (next : Reply → Hook)

/-- Driver state (R191), a record of the host: the hooks are procedures, so it is no plain data. -/
structure DriverState where
  initialized : Bool
  /-- the "reentrancy flag" -/
  busy        : Bool
  cfg         : DriverConfig
  st          : Stats
  preHook     : Option Hook
  /-- it "receives the final result" (R202) -/
  postHook    : Option (Result → Hook)
  /-- the block it owns; none before initialize and after deinitialize releases it (R208) -/
  hw          : Option State

/-- Why a run of the driver has no answer. The first is a use of a block that does not exist, which the spec gives no
meaning (93_implementation_defined.md U10). The second is the model's own bound on calls made from hooks. -/
inductive Stuck where
  | noBlock
  | nestedTooDeep
deriving DecidableEq, Repr

/-- `BR_CODE(baud)` (R193). -/
def brCode (baud : Int) : BitVec 3 :=
  if baud ≤ 1000000 then brLe1M else if baud ≤ 2000000 then brLe2M else brGt2M

/-- CR1 from the configuration (R193). -/
def cr1Of (cfg : DriverConfig) : Word :=
  cfg.cpha.setWidth 32 ||| cfg.cpol.setWidth 32 <<< 1 ||| (BitVec.ofBool cfg.master).setWidth 32 <<< 2
    ||| (brCode cfg.baud).setWidth 32 <<< 3
    ||| (BitVec.ofBool (cfg.dataSize == .bits16)).setWidth 32 <<< 11

/-- CR2 from the configuration (R194). -/
def cr2Of (cfg : DriverConfig) : Word := (BitVec.ofBool cfg.ssm).setWidth 32 <<< 2

/-- The three writes of initialize, in order (R195). -/
def initWrites (cfg : DriverConfig) : List Instr :=
  [.wrCr1 (cr1Of cfg), .wrCr2 (cr2Of cfg), .wrCr1 (cr1Of cfg ||| 0x40#32)]

/-- initialize(config | default) (R195); `created` says whether creating the block succeeded. A new block is in the reset
state (70_reset_and_hazards.md R250). -/
def initDriver (created : Bool) (cfg? : Option DriverConfig) (d : DriverState) : Result × DriverState :=
  if created then
    let cfg := cfg?.getD defaultConfig
    (.ok, { d with
      initialized := true
      busy := false
      cfg := cfg
      st := ⟨0, 0, 0, 0⟩
      hw := some (issueAll (initWrites cfg) State.reset) })
  else (.allocationFailure, d)

/-- `WaitSR(pred, B)` (R196): check first, then step, at most `B` steps. Every poll is a real READ of SR. -/
def waitSr (pred : Word → Bool) : Nat → State → Result × State
  | 0, s =>
    let s := busRead 0x08#32 s
    if pred (returned s) then (.ok, s) else (.timeout, s)
  | b + 1, s =>
    let s := busRead 0x08#32 s
    if pred (returned s) then (.ok, s) else waitSr pred b (issue .step s)

/-- Steps 1 to 5 for one byte (R198): the received byte when both waits succeed. -/
def moveByte (budget : Nat) (b : Byte) (s : State) : Result × Option Byte × State :=
  match waitSr txe budget s with
  | (.ok, s) =>
    match waitSr rxne budget (busWrite 0x0C#32 (zext b) s) with
    | (.ok, s) =>
      let s := busRead 0x0C#32 s
      (.ok, some (lowByte (returned s)), steps 100 s)
    | (r, s) => (r, none, s)
  | (r, s) => (r, none, s)

/-- The byte loop (R198, R199): it stops at the first byte whose waits do not both succeed; what was received before
that stays. -/
def byteLoop (budget : Nat) : List Byte → State → Result × List Byte × State
  | [], s => (.ok, [], s)
  | b :: rest, s =>
    match moveByte budget b s with
    | (.ok, some v, s) =>
      let (r, vs, s) := byteLoop budget rest s
      (r, v :: vs, s)
    | (r, _, s) => (r, [], s)

/-- Use the block the driver owns. -/
def onBlock {α : Type} (use : State → α × State) (d : DriverState) : Except Stuck (α × DriverState) :=
  match d.hw with
  | some s => .ok ((use s).1, { d with hw := some (use s).2 })
  | none => .error .noBlock

/-- `PEEK(cycle)` (R198, R201). -/
def peekCycle (s : State) : Word × State := (returned (issue (.peek .cycle) s), issue (.peek .cycle) s)

/-- Run a hook; `call` is how it calls the driver. Its block operations are ordinary host operations (R203). -/
def runHookWith (call : Call → DriverState → Except Stuck (Reply × DriverState)) :
    Hook → DriverState → Except Stuck DriverState
  | .done, d => .ok d
  | .op i next, d =>
    match onBlock (fun s => ((issue i s).result, issue i s)) d with
    | .ok (v, d) => runHookWith call (next v) d
    | .error e => .error e
  | .call c next, d =>
    match call c d with
    | .ok (r, d) => runHookWith call (next r) d
    | .error e => .error e

/-- Run a hook if one is present. -/
def runOptional (run : Hook → DriverState → Except Stuck DriverState) : Option Hook → DriverState →
    Except Stuck DriverState
  | some h, d => run h d
  | none, d => .ok d

/-- The statistics after a transfer that passed its checks (R201). -/
def updateStats (st : Stats) (length : Nat) (elapsed : Word) (r : Result) : Stats where
  transfers := st.transfers + 1
  bytes := st.bytes + BitVec.ofNat 32 length
  latency := st.latency + elapsed
  errors := if r = .ok then st.errors else st.errors + 1

/-- The byte loop, then the final BSY wait, which runs after an abort too and whose result counts only when the loop's
was OK (R198, decision D34): the result and the received bytes. -/
def moveBytes (budget : Nat) (bytes : List Byte) (s : State) : (Result × List Byte) × State :=
  let (r1, got, s1) := byteLoop budget bytes s
  let (r2, s2) := waitSr (fun v => !bsy v) budget s1
  ((if r1 = .ok then r2 else r1, got), s2)

/-- The body of a transfer that passed its checks (R198 to R202), in the order of decision D33: busy set, start, pre hook,
bytes, statistics, busy cleared, post hook. -/
def transferBody (run : Hook → DriverState → Except Stuck DriverState) (bytes : List Byte) (rxPresent : Bool)
    (timeoutMs : Word) (d : DriverState) : Except Stuck (Reply × DriverState) := do
  let (start, d) ← onBlock peekCycle { d with busy := true }
  let d ← runOptional run d.preHook d
  let ((r, got), d) ← onBlock (moveBytes (timeoutMs.toNat * 1000) bytes) d
  let (stop, d) ← onBlock peekCycle d
  let d := { d with busy := false, st := updateStats d.st bytes.length (stop - start) r }
  let d ← runOptional run (d.postHook.map fun h => h r) d
  return (.transferred r (if rxPresent then got else []), d)

/-- The argument checks of transfer, in order (R197): why the call is rejected, if it is. -/
def rejection (tx : Option (List Byte)) (d : DriverState) : Option Result :=
  if d.initialized = false ∨ tx = none ∨ tx = some [] then some .invalidArgument
  else if d.busy = true then some .busy
  else none

/-- transfer(tx, rx, length, timeout_ms) (R197, R198). `tx` is `none` for a null pointer; `length` is the length of the
buffer, as R198's premise has it. A rejected call changes nothing (90_conflicts.md C4, decision D25). -/
def transfer (run : Hook → DriverState → Except Stuck DriverState) (tx : Option (List Byte)) (rxPresent : Bool)
    (timeoutMs : Word) (d : DriverState) : Except Stuck (Reply × DriverState) :=
  match rejection tx d with
  | some r => .ok (.transferred r [], d)
  | none => transferBody run (tx.getD []) rxPresent timeoutMs d

/-- The read-modify-write of CR1's prescaler field (R204). -/
def rewritePrescaler (baud : Int) (s : State) : State :=
  let s := busRead 0x00#32 s
  busWrite 0x00#32 ((returned s &&& ~~~0x38#32) ||| (brCode baud).setWidth 32 <<< 3) s

/-- set-baudrate(baud) (R204): the prescaler field, and the stored configuration. -/
def setBaudrate (baud : Int) (d : DriverState) : Except Stuck (Result × DriverState) :=
  if d.initialized then
    match onBlock (fun s => ((), rewritePrescaler baud s)) d with
    | .ok (_, d) => .ok (.ok, { d with cfg := { d.cfg with baud := baud } })
    | .error e => .error e
  else .ok (.invalidArgument, d)

/-- get-status (R205). -/
def getStatus (d : DriverState) : Result := if d.busy then .busy else .ok

/-- get-efficiency (R206), an exact rational percentage (decision D27). -/
def getEfficiency (d : DriverState) : Rat :=
  if d.st.bytes = 0 ∨ d.st.latency = 0 then 0
  else ((d.st.bytes.toNat : Rat) * 10) / (d.st.latency.toNat : Rat) * 100

/-- The DMA path (R207): no hardware interaction. -/
def dma (d : DriverState) : Result × DriverState := (.unsupportedMode, d)

/-- deinitialize (R208): it releases the block. -/
def deinitialize (d : DriverState) : Result × DriverState := (.ok, { d with initialized := false, hw := none })

/-- One call of the interface; `run` runs the hooks. -/
def callWith (run : Hook → DriverState → Except Stuck DriverState) (c : Call) (d : DriverState) :
    Except Stuck (Reply × DriverState) :=
  match c with
  | .init created cfg? => .ok (.code (initDriver created cfg? d).1, (initDriver created cfg? d).2)
  | .transfer tx rxPresent timeoutMs => transfer run tx rxPresent timeoutMs d
  | .setBaudrate baud =>
    match setBaudrate baud d with
    | .ok (r, d) => .ok (.code r, d)
    | .error e => .error e
  | .getStatus => .ok (.code (getStatus d), d)
  | .getEfficiency => .ok (.percentage (getEfficiency d), d)
  | .dma => .ok (.code (dma d).1, (dma d).2)
  | .deinitialize => .ok (.code (deinitialize d).1, (deinitialize d).2)

/-- Run a hook. A call it makes may be a transfer that is accepted and runs the hooks in turn (from a post hook, say);
`depth` bounds how often that nests, and a run that needs more has no answer at that depth (log entry 16). -/
def runHook : Nat → Hook → DriverState → Except Stuck DriverState
  | 0 => runHookWith (callWith fun _ _ => .error .nestedTooDeep)
  | depth + 1 => runHookWith (callWith (runHook depth))

/-- A driver call; hooks run from hooks nest at most `depth` deep. -/
def call (depth : Nat) (c : Call) (d : DriverState) : Except Stuck (Reply × DriverState) := callWith (runHook depth) c d

/-- The driver after some calls in order. -/
def callAll (depth : Nat) : List Call → DriverState → Except Stuck DriverState
  | [], d => .ok d
  | c :: cs, d =>
    match call depth c d with
    | .ok (_, d) => callAll depth cs d
    | .error e => .error e

end Sys2Proof.Driver
end

