-- ==== Sys2Proof/Safety.lean ====
section
/-! DEFINITION. The terms in which claims about the machine are made: runs, the invariant of reachable states, the
power-on values, the spec's tables (next states, opcode rows, reserved words), each written from its rule and not from
the meanings. -/

namespace Sys2Proof.Machine

/-! Runs. -/

/-- Execute operations in order, stopping at the first that does not answer a next state. -/
def execAll : List Instr → State → Host.Outcome State Fault Refusal
  | [], s => .next s
  | i :: is, s =>
    match exec i s with
    | .next t => execAll is t
    | .fault f => .fault f
    | .refused r => .refused r

/-- Apply a change of state to an outcome's next state. -/
def mapNext (f : State → State) : Host.Outcome State Fault Refusal → Host.Outcome State Fault Refusal
  | .next t => .next (f t)
  | .fault e => .fault e
  | .refused r => .refused r

/-- A safe outcome: the machine goes on. The only stop is a reserved request word (30_encoding.md R87). -/
def SafeOutcome (o : Host.Outcome State Fault Refusal) : Prop := ∃ t, o = .next t

/-! State predicates. -/

/-- The sum over `from` of `matrix[from][q]`, modulo 2^32 (10_state.md R42). -/
def entriesInto (s : State) (q : FsmState) : Word :=
  matrixEntry s .idle q + matrixEntry s .txActive q + matrixEntry s .rxActive q + matrixEntry s .txrxActive q
    + matrixEntry s .error q + matrixEntry s .recovery q

/-- The invariant of reachable states (10_state.md R42, items 2 and 3; item 1 is in the types): no self-transition is
ever counted, and a state's visits are the entries into it. -/
def TrackerInv (s : State) : Prop :=
  (∀ q, matrixEntry s q q = 0) ∧ ∀ q, s.visits.get q = entriesInto s q

/-- Every component of the block's record has its power-on value (10_state.md R40). -/
def PowerOn (s : State) : Prop :=
  s.cr1 = 0 ∧ s.cr2 = 0 ∧ s.sr.toNat = 2 ∧ s.crc0 = 0 ∧ s.crc1 = 0 ∧
  (∀ k : Fin 16, s.tx.buf[k] = 0 ∧ s.rx.buf[k] = 0) ∧
  s.tx.head.val = 0 ∧ s.rx.head.val = 0 ∧ s.tx.level.val = 0 ∧ s.rx.level.val = 0 ∧
  s.state = .idle ∧ s.cycle = 0 ∧ s.txcount = 0 ∧ s.rxcount = 0 ∧
  (∀ i j, matrixEntry s i j = 0) ∧ (∀ q, s.visits.get q = 0) ∧
  ∀ r, s.wcov.get r = 0 ∧ s.rcov.get r = 0

/-! STEP. -/

/-- `tx'`, the transmit level after the TX_ACTIVE dequeue (41_clock_step.md R148). -/
def txLevelAfter (s : State) : Nat := s.tx.level.val - 1

/-- `rx'`, the receive level after the TX_ACTIVE loopback (R148, R141). -/
def rxLevelAfter (s : State) : Nat :=
  if 0 < s.tx.level.val ∧ s.rx.level.val < 16 then s.rx.level.val + 1 else s.rx.level.val

/-- The state column of the next-state table (R148), rows top to bottom. -/
def tableNext (s : State) : FsmState :=
  if s.cr1.getLsbD 6 = false then .idle
  else match s.state with
    | .idle => if s.tx.level.val > 0 ∨ s.sr.getLsbD 1 = true then .txActive else .idle
    | .txActive =>
      if txLevelAfter s = 0 ∧ s.sr.getLsbD 1 = false ∧ rxLevelAfter s > 0 then .rxActive
      else if txLevelAfter s = 0 ∧ s.sr.getLsbD 1 = false ∧ rxLevelAfter s = 0 then .idle
      else .txActive
    | .rxActive => if s.rx.level.val > 0 then .rxActive else .idle
    | .txrxActive => .txrxActive
    | .error =>
      if s.sr.getLsbD 4 = false ∧ s.sr.getLsbD 5 = false ∧ s.sr.getLsbD 6 = false then .recovery else .error
    | .recovery => if (s.cycle.toNat + 1) % 2 ^ 32 % 10 = 0 then .idle else .recovery

/-- The StateChange a change from `p` to `q` emits: none for a self-transition (R133). -/
def changeEvents (p q : FsmState) : List Event := if p = q then [] else [.stateChange p q]

/-- Is the event a StateChange? -/
def Event.isStateChange : Event → Bool
  | .lineOut _ => false
  | .stateChange _ _ => true

/-- `t`'s matrix and visit counters are `s`'s after the tracker saw a change from `p` to `q` (R133). -/
def Tracked (p q : FsmState) (s t : State) : Prop :=
  (∀ i j, matrixEntry t i j = if i = p ∧ j = q ∧ p ≠ q then matrixEntry s i j + 1 else matrixEntry s i j) ∧
  ∀ i, t.visits.get i = if i = q ∧ p ≠ q then s.visits.get i + 1 else s.visits.get i

/-- How many further enabled steps RECOVERY lasts when entered at cycle `e` (R152). -/
def recoveryDuration (e : Nat) : Nat := if e ≥ 4294967290 then 2 ^ 32 - e else if e % 10 = 0 then 10 else 10 - e % 10

/-! Coverage (10_state.md R38). -/

/-- The value an operation writes to a register, 0 when it writes none. -/
def writtenTo (r : RegName) : Instr → Word
  | .wrCr1 v => if r = .cr1 then v else 0
  | .wrCr2 v => if r = .cr2 then v else 0
  | .wrSr v => if r = .sr then v else 0
  | .wrDr v => if r = .dr then v else 0
  | .rdCr1 | .rdCr2 | .rdSr | .rdDr | .rdUnmapped _ | .wrUnmapped _ _ | .step | .reset | .pokeSr _ | .forceState _
  | .peek _ => 0

/-- The register a READ reads, if it is mapped. -/
def registerRead : Instr → Option RegName
  | .rdCr1 => some .cr1
  | .rdCr2 => some .cr2
  | .rdSr => some .sr
  | .rdDr => some .dr
  | .rdUnmapped _ | .wrCr1 _ | .wrCr2 _ | .wrSr _ | .wrDr _ | .wrUnmapped _ _ | .step | .reset | .pokeSr _
  | .forceState _ | .peek _ => none

/-! Encoding. -/

/-- The request words that have no meaning (30_encoding.md R87). -/
def ReservedWord (w : ReqWord) : Prop :=
  let kind := w.toNat / 2 ^ 32
  let sel := w.toNat % 2 ^ 32
  kind = 7 ∨ (kind = 5 ∧ sel ≥ 6) ∨ (kind = 6 ∧ sel ≥ 91) ∨ ((kind = 2 ∨ kind = 3 ∨ kind = 4) ∧ sel ≠ 0)

/-- The table's mnemonic of an instruction. -/
def mnemonic : Instr → String
  | .rdCr1 => "RD_CR1"
  | .rdCr2 => "RD_CR2"
  | .rdSr => "RD_SR"
  | .rdDr => "RD_DR"
  | .rdUnmapped _ => "RD_UNMAPPED"
  | .wrCr1 _ => "WR_CR1"
  | .wrCr2 _ => "WR_CR2"
  | .wrSr _ => "WR_SR"
  | .wrDr _ => "WR_DR"
  | .wrUnmapped _ _ => "WR_UNMAPPED"
  | .step => "STEP"
  | .reset => "RESET"
  | .pokeSr _ => "POKE_SR"
  | .forceState _ => "FORCE_STATE"
  | .peek _ => "PEEK"

/-- A row of opcode_table.json: its match and mask over the 35-bit word, and the largest `sel` of a ranged row. -/
structure OpcodeRow where
  mnemonic  : String
  matchBits : ReqWord
  mask      : ReqWord
  maxSel    : Option Nat
deriving DecidableEq, Repr

/-- opcode_table.json, in its own order, which is the order R88 checks: each unmapped row after the mapped ones. -/
def opcodeTable : List OpcodeRow :=
  [ ⟨"RD_CR1", 0x000000000#35, 0x7FFFFFFFF#35, none⟩,
    ⟨"RD_CR2", 0x000000004#35, 0x7FFFFFFFF#35, none⟩,
    ⟨"RD_SR", 0x000000008#35, 0x7FFFFFFFF#35, none⟩,
    ⟨"RD_DR", 0x00000000C#35, 0x7FFFFFFFF#35, none⟩,
    ⟨"RD_UNMAPPED", 0x000000000#35, 0x700000000#35, none⟩,
    ⟨"WR_CR1", 0x100000000#35, 0x7FFFFFFFF#35, none⟩,
    ⟨"WR_CR2", 0x100000004#35, 0x7FFFFFFFF#35, none⟩,
    ⟨"WR_SR", 0x100000008#35, 0x7FFFFFFFF#35, none⟩,
    ⟨"WR_DR", 0x10000000C#35, 0x7FFFFFFFF#35, none⟩,
    ⟨"WR_UNMAPPED", 0x100000000#35, 0x700000000#35, none⟩ ]
  ++
  [ ⟨"STEP", 0x200000000#35, 0x7FFFFFFFF#35, none⟩,
    ⟨"RESET", 0x300000000#35, 0x7FFFFFFFF#35, none⟩,
    ⟨"POKE_SR", 0x400000000#35, 0x7FFFFFFFF#35, none⟩,
    ⟨"FORCE_STATE", 0x500000000#35, 0x700000000#35, some 5⟩,
    ⟨"PEEK", 0x600000000#35, 0x700000000#35, some 90⟩ ]

/-- Does a row match a request word? -/
def OpcodeRow.accepts (row : OpcodeRow) (w : ReqWord) : Bool :=
  w &&& row.mask == row.matchBits &&
    match row.maxSel with
    | some m => decide (w.toNat % 2 ^ 32 ≤ m)
    | none => true

/-- The mnemonic of the first row that matches, or none: *refused* (R88). -/
def tableLookup (w : ReqWord) : Option String := (opcodeTable.find? (·.accepts w)).map (·.mnemonic)

end Sys2Proof.Machine

namespace Sys2Proof.Driver

open Sys2Proof.Machine

/-- A driver without hooks whose block, if it has one, waits in vain for RXNE (45_host_driver.md R210): not busy, enabled,
in IDLE or TX_ACTIVE, with TXE set and RXNE and BSY clear. -/
def TransmitWait (d : DriverState) : Prop :=
  d.preHook = none ∧ d.postHook = none ∧ d.hw.isSome = d.initialized ∧
  ∀ s, d.hw = some s → d.busy = false ∧ s.cr1.getLsbD 6 = true ∧ s.sr.getLsbD 1 = true ∧ s.sr.getLsbD 0 = false ∧
    s.sr.getLsbD 7 = false ∧ (s.state = .idle ∨ s.state = .txActive)

end Sys2Proof.Driver
end

