-- ==== Sys2Proof/Certificates/Slice0/Obligations.lean ====
section
/-! DEFINITION. The statements about the model, from the numbered rules of the spec. `t = { s with … := t.… }` is a
frame: every field not named is unchanged. The fields `requests`, `result` and `trace` that the frames keep are the
model's own (log entries 1, 4 and 5). -/

open Sys2Proof Sys2Proof.Machine

/-! ## Encoding (30_encoding.md) -/

/-- The example request words of R92 decode as its table says, and every word of kind 0b111 is refused. (The spec
derives R92 from R81 to R85.) -/
def Obligations.ExampleRequestWordsDecode : Prop :=
  (∀ d, decode ⟨0x000000000, d⟩ = .ok .rdCr1) ∧
  (∀ d, decode ⟨0x00000000C, d⟩ = .ok .rdDr) ∧
  decode ⟨0x100000000, 0x00000044⟩ = .ok (.wrCr1 0x44) ∧
  decode ⟨0x10000000C, 0x000000A5⟩ = .ok (.wrDr 0xA5) ∧
  decode ⟨0x100000010, 0x00000001⟩ = .ok (.wrUnmapped 0x10 0x1) ∧
  (∀ d, decode ⟨0x200000000, d⟩ = .ok .step) ∧
  (∀ d, decode ⟨0x300000000, d⟩ = .ok .reset) ∧
  decode ⟨0x400000000, 0x00000012⟩ = .ok (.pokeSr 0x12) ∧
  (∀ d, decode ⟨0x500000004, d⟩ = .ok (.forceState .error)) ∧
  (∀ d, decode ⟨0x600000000, d⟩ = .ok (.peek .cycle)) ∧
  (∀ d, decode ⟨0x60000005A, d⟩ = .ok (.peek .visited)) ∧
  ∀ (w : ReqWord) (d : Word), w.toNat ≥ 0x700000000 → decode ⟨w, d⟩ = .error .reservedKind

/-- The example texts of R92, in the syntax of R90, assemble to the operations whose request words its table gives. -/
def Obligations.ExampleTextsAssembleToTheirWords : Prop :=
  ∀ p ∈ ([ ("rd CR1", .rdCr1, 0x000000000#35), ("rd DR", .rdDr, 0x00000000C#35),
           ("wr CR1, 0x44", .wrCr1 0x44#32, 0x100000000#35), ("wr DR, 0xA5", .wrDr 0xA5#32, 0x10000000C#35),
           ("wr 0x10, 0x1", .wrUnmapped 0x10#32 0x1#32, 0x100000010#35), ("step", .step, 0x200000000#35),
           ("reset", .reset, 0x300000000#35), ("poke_sr 0x12", .pokeSr 0x12#32, 0x400000000#35),
           ("force_state ERROR", .forceState .error, 0x500000004#35), ("peek cycle", .peek .cycle, 0x600000000#35),
           ("peek visited", .peek .visited, 0x60000005A#35) ] : List (String × Instr × ReqWord)),
    Asm.parseLine p.1.toList = some (.op p.2.1) ∧ (encode p.2.1).word = p.2.2

/-- Decode and encode agree: every well-formed instruction comes back, with every operand at every value. -/
def Obligations.DecodeOfEncodeReturnsTheInstruction : Prop :=
  ∀ i : Instr, i.wellFormed = true → decode (encode i) = .ok i

/-- The other direction: what a request decodes to is well formed, and encodes back to the same word and, where the kind
carries one (R81), the same data operand. -/
def Obligations.DecodedInstructionsEncodeBack : Prop :=
  ∀ (r : Request) (i : Instr), decode r = .ok i →
    i.wellFormed = true ∧ (encode i).word = r.word ∧ (hasData r.word = true → (encode i).data = r.data)

/-- R88, which the spec derives from R81 to R87: every 35-bit request word decodes to exactly one row of the opcode
table, the first that matches by match, mask and range, or to *refused* when no row matches. -/
def Obligations.DecodeAgreesWithTheOpcodeTable : Prop :=
  ∀ r : Request,
    (match decode r with
      | .ok i => some (mnemonic i)
      | .error _ => none) = tableLookup r.word

/-- R87: the reserved words are exactly those the decoder refuses, whatever the data operand. -/
def Obligations.ReservedWordsAreExactlyTheRefused : Prop :=
  ∀ r : Request, ReservedWord r.word ↔ ∃ e, decode r = .error e

/-- A reserved word in front of the host's requests stops the machine with a refusal, executing no operation, and no other
word stops it. That the machine stops there is the model's own choice (log entry 22), as the request queue is (log
entry 1); the spec says only that such a word is refused and executed as nothing (R87). -/
def Obligations.OnlyReservedRequestsStopTheMachine : Prop :=
  ∀ (s : State) (r : Request) (rest : List Request), s.requests = r :: rest →
    (ReservedWord r.word → ∃ e, step s = .refused (.reservedRequest e)) ∧
    (¬ ReservedWord r.word → ∃ t, step s = .next t)

/-- A step runs the decoded request: it takes the host's next request and executes what it decodes to, with the further
requests left pending; with no request the passive block stays as it is (R6; the request queue is the model's own,
log entry 1); and a table word placed by `withFetchWord` is what the very next step executes. -/
def Obligations.StepRunsTheDecodedRequest : Prop :=
  (∀ (s : State) (r : Request) (rest : List Request) (i : Instr), s.requests = r :: rest → decode r = .ok i →
    step s = exec i { s with requests := rest }) ∧
  (∀ s : State, s.requests = [] → step s = .next s) ∧
  ∀ (s : State) (nbits w : Nat) (i : Instr), decodeTableWord nbits w = some i →
    step (s.withFetchWord nbits w) = exec i s

/-- Pending requests run one after the other, in issue order, each complete before the next (R6, R69): as many steps of
the machine as there are encoded instructions give what executing the instructions in order gives. The queue they wait
in is the model's own choice (log entry 1). -/
def Obligations.PendingRequestsRunInIssueOrder : Prop :=
  ∀ (is : List Instr) (rest : List Request) (s : State), (∀ i ∈ is, i.wellFormed = true) →
    s.requests = is.map encode ++ rest →
    core.run is.length s = execAll is { s with requests := rest }

/-- R230: every operation completes, for every operand and every state, and a step never faults. -/
def Obligations.EveryOperationCompletes : Prop :=
  (∀ (i : Instr) (s : State), ∃ t, exec i s = .next t) ∧ ∀ (s : State) (f : Fault), step s ≠ .fault f

/-! ## Register access (40_register_access.md) -/

/-- R101, R102, R103: a WRITE at offset 0x00, 0x04 or 0x08 is the write of CR1, CR2 or SR; they are stored verbatim,
every set bit of the value marks write coverage, and nothing else changes. -/
def Obligations.ControlAndStatusWritesStoreVerbatim : Prop :=
  ∀ (s : State) (v : Word),
    (decode ⟨0b001#3 ++ 0x00#32, v⟩ = .ok (.wrCr1 v) ∧ decode ⟨0b001#3 ++ 0x04#32, v⟩ = .ok (.wrCr2 v) ∧
      decode ⟨0b001#3 ++ 0x08#32, v⟩ = .ok (.wrSr v)) ∧
    (∃ t, exec (.wrCr1 v) s = .next t ∧ t.cr1 = v ∧
      (∀ k, t.wcov.cr1.getLsbD k = (s.wcov.cr1.getLsbD k || v.getLsbD k)) ∧
      t = { s with cr1 := t.cr1, wcov := { s.wcov with cr1 := t.wcov.cr1 }, result := none }) ∧
    (∃ t, exec (.wrCr2 v) s = .next t ∧ t.cr2 = v ∧
      (∀ k, t.wcov.cr2.getLsbD k = (s.wcov.cr2.getLsbD k || v.getLsbD k)) ∧
      t = { s with cr2 := t.cr2, wcov := { s.wcov with cr2 := t.wcov.cr2 }, result := none }) ∧
    ∃ t, exec (.wrSr v) s = .next t ∧ t.sr = v ∧
      (∀ k, t.wcov.sr.getLsbD k = (s.wcov.sr.getLsbD k || v.getLsbD k)) ∧
      t = { s with sr := t.sr, wcov := { s.wcov with sr := t.wcov.sr }, result := none }

/-- R104: a WRITE at offset 0x0C is the DR write, which appends its low byte to the transmit FIFO and counts it when
fewer than 16 bytes wait, and is silently dropped otherwise; coverage takes every bit of the value either way
(decision D7); nothing else changes, no other entry of the FIFO's buffer included. -/
def Obligations.DataWriteQueuesOrDropsTheLowByte : Prop :=
  ∀ (s : State) (v : Word), decode ⟨0b001#3 ++ 0x0C#32, v⟩ = .ok (.wrDr v) ∧ ∃ t, exec (.wrDr v) s = .next t ∧
    (s.tx.contents.length < 16 →
      t.tx.contents = s.tx.contents ++ [v.extractLsb' 0 8] ∧ t.tx.head = s.tx.head ∧
      (∀ n : Fin 16, n.val ≠ (s.tx.head.val + s.tx.level.val) % 16 → t.tx.buf[n] = s.tx.buf[n]) ∧
      t.txcount.toNat = (s.txcount.toNat + 1) % 2 ^ 32) ∧
    (s.tx.contents.length = 16 → t.tx = s.tx ∧ t.txcount = s.txcount) ∧
    (∀ k, t.wcov.dr.getLsbD k = (s.wcov.dr.getLsbD k || v.getLsbD k)) ∧
    t = { s with tx := t.tx, txcount := t.txcount, wcov := { s.wcov with dr := t.wcov.dr }, result := none }

/-- R105, R111, R61, R62: a request at any offset but the four mapped ones decodes to the unmapped operation; the write
changes nothing, the read returns 0 and changes nothing. -/
def Obligations.UnmappedAccessesChangeNothing : Prop :=
  (∀ off v d : Word, off.toNat ≠ 0 → off.toNat ≠ 4 → off.toNat ≠ 8 → off.toNat ≠ 12 →
    decode ⟨0b001#3 ++ off, v⟩ = .ok (.wrUnmapped off v) ∧ decode ⟨0b000#3 ++ off, d⟩ = .ok (.rdUnmapped off)) ∧
  ∀ (s : State) (off v : Word),
    exec (.wrUnmapped off v) s = .next { s with result := none } ∧
    exec (.rdUnmapped off) s = .next { s with result := some 0 }

/-- R107, R108, R109: a READ at offset 0x00, 0x04 or 0x08 is the read of CR1, CR2 or SR, which returns the stored value,
marks read coverage with its set bits, and changes nothing else (reading SR clears nothing). -/
def Obligations.ControlAndStatusReadsReturnTheCell : Prop :=
  ∀ (s : State) (d : Word),
    (decode ⟨0b000#3 ++ 0x00#32, d⟩ = .ok .rdCr1 ∧ decode ⟨0b000#3 ++ 0x04#32, d⟩ = .ok .rdCr2 ∧
      decode ⟨0b000#3 ++ 0x08#32, d⟩ = .ok .rdSr) ∧
    (∃ t, exec .rdCr1 s = .next t ∧ t.result = some s.cr1 ∧
      (∀ k, t.rcov.cr1.getLsbD k = (s.rcov.cr1.getLsbD k || s.cr1.getLsbD k)) ∧
      t = { s with rcov := { s.rcov with cr1 := t.rcov.cr1 }, result := t.result }) ∧
    (∃ t, exec .rdCr2 s = .next t ∧ t.result = some s.cr2 ∧
      (∀ k, t.rcov.cr2.getLsbD k = (s.rcov.cr2.getLsbD k || s.cr2.getLsbD k)) ∧
      t = { s with rcov := { s.rcov with cr2 := t.rcov.cr2 }, result := t.result }) ∧
    ∃ t, exec .rdSr s = .next t ∧ t.result = some s.sr ∧
      (∀ k, t.rcov.sr.getLsbD k = (s.rcov.sr.getLsbD k || s.sr.getLsbD k)) ∧
      t = { s with rcov := { s.rcov with sr := t.rcov.sr }, result := t.result }

/-- R110: a READ at offset 0x0C is the DR read, which returns the oldest received byte zero-extended, removes it, counts
it, and clears RXNE exactly when it emptied the FIFO; from an empty FIFO it returns 0 and changes nothing. -/
def Obligations.DataReadPopsTheOldestByte : Prop :=
  ∀ (s : State) (d : Word), decode ⟨0b000#3 ++ 0x0C#32, d⟩ = .ok .rdDr ∧ ∃ t, exec .rdDr s = .next t ∧
    (s.rx.contents = [] → t = { s with result := some 0 }) ∧
    ∀ (b : Byte) (rest : List Byte), s.rx.contents = b :: rest →
      t.result = some (b.setWidth 32) ∧ t.rx.contents = rest ∧ t.rx.buf = s.rx.buf ∧
      t.rx.head.val = (s.rx.head.val + 1) % 16 ∧
      t.rxcount.toNat = (s.rxcount.toNat + 1) % 2 ^ 32 ∧
      (∀ k, t.sr.getLsbD k = if k = 0 ∧ rest = [] then false else s.sr.getLsbD k) ∧
      (∀ k, t.rcov.dr.getLsbD k = (s.rcov.dr.getLsbD k || (b.setWidth 32).getLsbD k)) ∧
      t = { s with
            rx := t.rx, rxcount := t.rxcount, sr := t.sr, rcov := { s.rcov with dr := t.rcov.dr }, result := t.result }

/-! ## Control, bypass and instrumentation (42_control_ops.md) -/

/-- R170: RESET gives every component of the record its power-on value, whatever the state was, and emits no event: those
already emitted stay in the trace. -/
def Obligations.ResetRestoresThePowerOnValues : Prop :=
  ∀ (s : State) (d : Word), decode ⟨0b011#3 ++ 0#32, d⟩ = .ok .reset ∧ ∃ t, exec .reset s = .next t ∧
    PowerOn t ∧ t.trace = s.trace

/-- RESET is the power-on state with the host's further requests still pending and no value returned. The pending requests
and the returned value are the model's own choice (log entries 1 and 4), and so is that RESET leaves the former alone. -/
def Obligations.ResetKeepsTheHostsRequests : Prop :=
  ∀ s : State, exec .reset s = .next { State.reset with requests := s.requests, trace := s.trace }

/-- R40: the machine right after reset has every power-on value. -/
def Obligations.ResetStateHasThePowerOnValues : Prop := PowerOn State.reset

/-- R171: POKE_SR writes all of SR and nothing else, and differs from a register write to SR only in recording no write
coverage. -/
def Obligations.PokeSrWritesSrWithoutCoverage : Prop :=
  ∀ (s : State) (v : Word), decode ⟨0b100#3 ++ 0#32, v⟩ = .ok (.pokeSr v) ∧ ∃ t u, exec (.pokeSr v) s = .next t ∧
    exec (.wrSr v) s = .next u ∧
    t = { s with sr := v, result := none } ∧ t = { u with wcov := s.wcov }

/-- R172: FORCE_STATE with a code of R84 makes the named state current, counted and emitted like any state change, and
touches neither FIFO, counter nor SR; forcing the current state records nothing. -/
def Obligations.ForceStateSetsTheState : Prop :=
  (∀ p ∈ ([(.idle, 0), (.txActive, 1), (.rxActive, 2), (.txrxActive, 3), (.error, 4), (.recovery, 5)] :
      List (FsmState × Nat)),
    ∀ d : Word, decode ⟨0b101#3 ++ BitVec.ofNat 32 p.2, d⟩ = .ok (.forceState p.1)) ∧
  ∀ (s : State) (q : FsmState), ∃ t, exec (.forceState q) s = .next t ∧
    t.state = q ∧ Tracked s.state q s t ∧ t.trace = s.trace ++ changeEvents s.state q ∧
    t = { s with state := q, matrix := t.matrix, visits := t.visits, trace := t.trace, result := none }

/-- R85, R173: PEEK returns the piece of state its selector names, zero-extended, and changes nothing; selectors 91 and
above are refused. The state codes of R33 and the positions of the registers are written out. -/
def Obligations.PeekReturnsTheSelectedItem : Prop :=
  (∀ (k : Word) (d : Word), k.toNat ≥ 91 → ∃ e, decode ⟨0b110#3 ++ k, d⟩ = .error e) ∧
  ∀ (s : State) (k : Nat) (d : Word), k ≤ 90 →
    ∃ (item : PeekItem) (v : Word), decode ⟨0b110#3 ++ BitVec.ofNat 32 k, d⟩ = .ok (.peek item) ∧
      exec (.peek item) s = .next { s with result := some v } ∧
      (k = 0 → v = s.cycle) ∧
      (∀ p ∈ ([(.idle, 0), (.txActive, 1), (.rxActive, 2), (.txrxActive, 3), (.error, 4), (.recovery, 5)] :
          List (FsmState × Nat)), (k = 1 → s.state = p.1 → v.toNat = p.2) ∧ (k = 44 + p.2 → v = s.visits.get p.1) ∧
        ∀ q ∈ ([(.idle, 0), (.txActive, 1), (.rxActive, 2), (.txrxActive, 3), (.error, 4), (.recovery, 5)] :
          List (FsmState × Nat)), k = 8 + 6 * p.2 + q.2 → v = matrixEntry s p.1 q.1) ∧
      (k = 2 → v.toNat = s.tx.level.val) ∧ (k = 3 → v.toNat = s.rx.level.val) ∧
      (k = 4 → v = s.txcount) ∧ (k = 5 → v = s.rxcount) ∧
      (k = 6 → v.toNat = s.tx.head.val) ∧ (k = 7 → v.toNat = s.rx.head.val) ∧
      (k = 50 → v = s.wcov.cr1) ∧ (k = 51 → v = s.wcov.cr2) ∧ (k = 52 → v = s.wcov.sr) ∧ (k = 53 → v = s.wcov.dr) ∧
      (k = 54 → v = s.rcov.cr1) ∧ (k = 55 → v = s.rcov.cr2) ∧ (k = 56 → v = s.rcov.sr) ∧ (k = 57 → v = s.rcov.dr) ∧
      (∀ n : Fin 16, k = 58 + n.val → v.toNat = s.tx.buf[n].toNat) ∧
      (∀ n : Fin 16, k = 74 + n.val → v.toNat = s.rx.buf[n].toNat) ∧
      (k = 90 → v.toNat = (allStates.filter fun q => s.visits.get q ≠ 0).length)

/-- Every PEEK item, however it was named, completes with a value and changes nothing. -/
def Obligations.PeekCompletesForEveryItem : Prop :=
  ∀ (s : State) (item : PeekItem), ∃ (k : Nat) (v : Word), k ≤ 90 ∧
    decode ⟨0b110#3 ++ BitVec.ofNat 32 k, 0⟩ = .ok (.peek item) ∧
    exec (.peek item) s = .next { s with result := some v }

/-! ## STEP (41_clock_step.md) -/

/-- R261: STEP increments `cycle` by one modulo 2^32, whatever SPE and the state are; no other operation but RESET
changes it. -/
def Obligations.OnlyStepAdvancesTheCycle : Prop :=
  (∀ s : State, ∃ t, exec .step s = .next t ∧ t.cycle.toNat = (s.cycle.toNat + 1) % 2 ^ 32) ∧
  ∀ (i : Instr) (s : State), i ≠ .step → ∃ t, exec i s = .next t ∧ t.cycle = if i = .reset then 0 else s.cycle

/-- R136: a step with SPE = 0 forces IDLE, tracked as any state change; it moves no byte, leaves SR, both FIFOs, the
byte counters and the coverage bitmaps as they are, and emits no LineOut. -/
def Obligations.DisabledStepOnlyForcesIdle : Prop :=
  ∀ s : State, s.cr1.getLsbD 6 = false → ∃ t, exec .step s = .next t ∧
    t.state = .idle ∧ Tracked s.state .idle s t ∧ t.trace = s.trace ++ changeEvents s.state .idle ∧
    t = { s with
          cycle := s.cycle + 1, state := .idle, matrix := t.matrix, visits := t.visits, trace := t.trace, result := none }

/-- R148's state column, which the spec derives from R135 to R147: for every state of the block, the state after a STEP
is the table's next state. Its TX_ACTIVE exits rest on 90_conflicts.md C1 (decision D13, log entry 9). -/
def Obligations.StepFollowsTheNextStateTable : Prop :=
  ∀ s : State, ∃ t, exec .step s = .next t ∧ t.state = tableNext s

/-- R139 to R142 and R147: an enabled step in TX_ACTIVE with a byte waiting dequeues exactly the oldest byte, emits it once
on the line output before any StateChange, pushes its complement into the receive FIFO or drops it when that is full,
sets no bit of SR but TXE, and counts the byte. It leaves TX_ACTIVE, for RX_ACTIVE, only when the FIFO drained and TXE
was clear: that exit test is R142 as 90_conflicts.md C1 resolves it (decision D13, log entry 9). -/
def Obligations.TransmitStepMovesOneByte : Prop :=
  ∀ (s : State) (b : Byte) (rest : List Byte), s.cr1.getLsbD 6 = true → s.state = .txActive → s.tx.contents = b :: rest →
    ∃ t, exec .step s = .next t ∧
      t.tx.contents = rest ∧ t.tx.buf = s.tx.buf ∧ t.tx.head.val = (s.tx.head.val + 1) % 16 ∧
      (s.rx.contents.length < 16 → t.rx.contents = s.rx.contents ++ [b ^^^ 0xFF]) ∧
      (s.rx.contents.length = 16 → t.rx = s.rx) ∧
      (∀ n : Fin 16, n.val ≠ (s.rx.head.val + s.rx.level.val) % 16 → t.rx.buf[n] = s.rx.buf[n]) ∧
      t.rx.head = s.rx.head ∧
      t.txcount.toNat = (s.txcount.toNat + 1) % 2 ^ 32 ∧
      (∀ k, k ≠ 1 → t.sr.getLsbD k = s.sr.getLsbD k) ∧
      t.state = (if rest = [] ∧ s.sr.getLsbD 1 = false then .rxActive else .txActive) ∧
      t.trace = s.trace ++ .lineOut b :: changeEvents .txActive t.state

/-- Only the TX_ACTIVE arm moves bytes: a step that is disabled, or in another state, or with an empty transmit FIFO,
leaves both FIFOs and the transmitted-byte counter as they are and emits no LineOut. -/
def Obligations.OtherStepsMoveNoByte : Prop :=
  ∀ s : State, s.cr1.getLsbD 6 = false ∨ s.state ≠ .txActive ∨ s.tx.contents = [] →
    ∃ t, exec .step s = .next t ∧ t.tx = s.tx ∧ t.rx = s.rx ∧ t.txcount = s.txcount ∧
      t.trace = s.trace ++ changeEvents s.state t.state

/-- R147: an enabled step sets TXE exactly when fewer than 16 bytes wait after its arm; apart from TXE it changes at
most RXNE, and that in RX_ACTIVE alone. -/
def Obligations.EnabledStepRecomputesTxe : Prop :=
  ∀ s : State, s.cr1.getLsbD 6 = true → ∃ t, exec .step s = .next t ∧
    (t.sr.getLsbD 1 = true ↔ t.tx.level.val < 16) ∧
    (∀ k, 2 ≤ k → t.sr.getLsbD k = s.sr.getLsbD k) ∧
    (s.state ≠ .rxActive → t.sr.getLsbD 0 = s.sr.getLsbD 0)

/-- R143: an enabled step in RX_ACTIVE sets RXNE and stays while received bytes remain; when none remain it clears RXNE
and goes to IDLE. It pops nothing. -/
def Obligations.ReceiveStepRaisesRxneUntilDrained : Prop :=
  ∀ s : State, s.cr1.getLsbD 6 = true → s.state = .rxActive → ∃ t, exec .step s = .next t ∧
    (s.rx.contents ≠ [] → t.sr.getLsbD 0 = true ∧ t.state = .rxActive) ∧
    (s.rx.contents = [] → t.sr.getLsbD 0 = false ∧ t.state = .idle) ∧
    t.rx = s.rx ∧ t.tx = s.tx

/-- R145, R146: an enabled step leaves ERROR for RECOVERY exactly when SR bits 4, 5 and 6 are all clear, and leaves
RECOVERY for IDLE exactly when the incremented cycle is a multiple of 10. No byte moves. -/
def Obligations.ErrorAndRecoveryStepsLeaveAsStated : Prop :=
  ∀ s : State, s.cr1.getLsbD 6 = true →
    (s.state = .error → ∃ t, exec .step s = .next t ∧ t.tx = s.tx ∧ t.rx = s.rx ∧
      ((s.sr.getLsbD 4 = false ∧ s.sr.getLsbD 5 = false ∧ s.sr.getLsbD 6 = false) → t.state = .recovery) ∧
      ((s.sr.getLsbD 4 = true ∨ s.sr.getLsbD 5 = true ∨ s.sr.getLsbD 6 = true) → t.state = .error)) ∧
    (s.state = .recovery → ∃ t, exec .step s = .next t ∧ t.tx = s.tx ∧ t.rx = s.rx ∧
      (t.cycle.toNat % 10 = 0 → t.state = .idle) ∧ (t.cycle.toNat % 10 ≠ 0 → t.state = .recovery))

/-- The frame of STEP in every state: CR1, CR2, the CRC cells, the received-byte counter, the coverage bitmaps and the
receive FIFO's head never change; the remaining fields are those the other statements about STEP account for. That the
host's further requests stay pending, and that nothing is returned, is said of fields that are the model's own choice
(log entries 1 and 4). -/
def Obligations.StepLeavesTheRestUnchanged : Prop :=
  ∀ s : State, ∃ t, exec .step s = .next t ∧ t.rx.head = s.rx.head ∧
    t = { s with
          sr := t.sr, tx := t.tx, rx := t.rx, state := t.state, cycle := t.cycle, txcount := t.txcount,
          matrix := t.matrix, visits := t.visits, trace := t.trace, result := none }

/-- R255 and R262, which the spec derives from R137 to R139: with an enabled block in IDLE and nothing waiting, a byte
written to DR is on the line output after exactly two steps: the first only enters TX_ACTIVE, the second shifts it
out. -/
def Obligations.DataWriteInIdleIsOutInTwoSteps : Prop :=
  ∀ (s : State) (v : Word), s.cr1.getLsbD 6 = true → s.state = .idle → s.tx.contents = [] →
    (∃ t, execAll [.wrDr v, .step] s = .next t ∧ t.trace = s.trace ++ [.stateChange .idle .txActive]) ∧
    ∃ t, execAll [.wrDr v, .step, .step] s = .next t ∧ t.tx.contents = [] ∧
      t.trace = s.trace ++ .stateChange .idle .txActive :: .lineOut (v.extractLsb' 0 8) :: changeEvents .txActive t.state

/-- R133: every state change made by STEP or FORCE_STATE counts once in the matrix and once as a visit; a
self-transition counts nothing. -/
def Obligations.StateChangesAreTracked : Prop :=
  ∀ (s : State) (i : Instr), (i = .step ∨ ∃ q, i = .forceState q) →
    ∃ t, exec i s = .next t ∧ Tracked s.state t.state s t ∧
      t.trace.filter Event.isStateChange = s.trace.filter Event.isStateChange ++ changeEvents s.state t.state

/-! ## Rules of the whole machine -/

/-- R27 and R29, which the spec derives from the rules that write SR: SR bits 2 to 31 (the error bits and BSY among
them) change only through WR_SR, POKE_SR or RESET. Beside these, TXE changes only in an enabled STEP, and RXNE only
in an enabled STEP in RX_ACTIVE or, cleared, in a DR read that empties the receive FIFO. -/
def Obligations.BlockWritesOnlyRxneAndTxe : Prop :=
  ∀ (i : Instr) (s t : State), exec i s = .next t → (∀ v, i ≠ .wrSr v) → (∀ v, i ≠ .pokeSr v) → i ≠ .reset →
    (∀ k, 2 ≤ k → t.sr.getLsbD k = s.sr.getLsbD k) ∧
    (t.sr.getLsbD 1 ≠ s.sr.getLsbD 1 → i = .step ∧ s.cr1.getLsbD 6 = true) ∧
    (t.sr.getLsbD 0 ≠ s.sr.getLsbD 0 →
      (i = .step ∧ s.cr1.getLsbD 6 = true ∧ s.state = .rxActive) ∨
      (i = .rdDr ∧ s.rx.contents.length = 1 ∧ t.sr.getLsbD 0 = false))

/-- R151, which the spec derives from R148: TXRX_ACTIVE and ERROR are entered only by FORCE_STATE, whatever SR holds;
RECOVERY is entered only from ERROR by a STEP, or by FORCE_STATE. -/
def Obligations.ErrorAndTxrxAreEnteredOnlyByForce : Prop :=
  ∀ (i : Instr) (s t : State), exec i s = .next t → t.state ≠ s.state →
    ((t.state = .error ∨ t.state = .txrxActive) → i = .forceState t.state) ∧
    (t.state = .recovery → i = .forceState .recovery ∨ (i = .step ∧ s.state = .error))

/-- R149 (derived from R134 to R147) and R140: an operation only appends to the trace. It appends a LineOut only in an
enabled STEP in TX_ACTIVE, then of the oldest waiting byte, at most one, and before the StateChange; it appends at
most one StateChange, of the change it made. -/
def Obligations.EventsOfOneOperation : Prop :=
  ∀ (i : Instr) (s t : State), exec i s = .next t → ∃ outs changes : List Event,
    t.trace = s.trace ++ outs ++ changes ∧
    (outs = [] ∨ ∃ b rest, outs = [.lineOut b] ∧ i = .step ∧ s.cr1.getLsbD 6 = true ∧ s.state = .txActive ∧
      s.tx.contents = b :: rest) ∧
    (changes = [] ∨ (changes = [.stateChange s.state t.state] ∧ s.state ≠ t.state ∧
      (i = .step ∨ ∃ q, i = .forceState q)))

/-- R42, items 2 and 3, at reset: no self-transition is counted and every visit counter is the sum of the entries into
its state. -/
def Obligations.TrackerInvariantHoldsAtReset : Prop := TrackerInv State.reset

/-- R42, items 2 and 3: every step of the machine keeps the invariant, from every state that has it. -/
def Obligations.EveryStepKeepsTheTrackerInvariant : Prop :=
  ∀ s t : State, TrackerInv s → step s = .next t → TrackerInv t

/-- R38: apart from RESET, a coverage bit is set exactly when it was set before or this access set it: a write to that
register of a value with the bit set, or a read of that register that returned a value with the bit set. So bits are
only ever set, and unmapped accesses, STEP, POKE_SR, FORCE_STATE and PEEK record none. RESET clears every bitmap. -/
def Obligations.CoverageRecordsExactlyTheAccesses : Prop :=
  (∀ (i : Instr) (s t : State) (r : RegName) (k : Nat), exec i s = .next t → i ≠ .reset →
    ((t.wcov.get r).getLsbD k = true ↔ (s.wcov.get r).getLsbD k = true ∨ (writtenTo r i).getLsbD k = true) ∧
    ((t.rcov.get r).getLsbD k = true ↔
      (s.rcov.get r).getLsbD k = true ∨ (registerRead i = some r ∧ ∃ v, t.result = some v ∧ v.getLsbD k = true))) ∧
  ∀ (s t : State) (r : RegName), exec .reset s = .next t → t.wcov.get r = 0 ∧ t.rcov.get r = 0

/-- R22 (the CRC cells): no operation reads or writes the CRC cells. Executing an operation with other CRC contents
gives the same result with those contents kept, except that RESET returns them to 0. -/
def Obligations.CrcCellsAreUnreachable : Prop :=
  ∀ (i : Instr) (s : State) (a b : Word),
    exec i { s with crc0 := a, crc1 := b } =
      mapNext (fun t => if i = .reset then t else { t with crc0 := a, crc1 := b }) (exec i s) ∧
    ∃ t, exec i s = .next t ∧ (i = .reset → t.crc0 = 0 ∧ t.crc1 = 0) ∧
      (i ≠ .reset → t.crc0 = s.crc0 ∧ t.crc1 = s.crc1)

/-- R24 (and R25 for CR2): of CR1 and CR2 only CR1 bit 6 affects the block. Two states that differ only in the other
bits of CR1 and in CR2 go through any operation that does not itself access those registers to states that differ
only there. -/
def Obligations.OnlySpeAffectsTheBlock : Prop :=
  ∀ (i : Instr) (s : State) (c1 c2 : Word), c1.getLsbD 6 = s.cr1.getLsbD 6 →
    i ≠ .rdCr1 → i ≠ .rdCr2 → (∀ v, i ≠ .wrCr1 v) → (∀ v, i ≠ .wrCr2 v) → i ≠ .reset →
    exec i { s with cr1 := c1, cr2 := c2 } = mapNext (fun t => { t with cr1 := c1, cr2 := c2 }) (exec i s)

/-- R150, which the spec derives from R137, R139, R142 and R147: a host that only writes DR, reads DR and SR, and steps,
keeps an enabled TX_ACTIVE with TXE = 1 for ever, operation by operation; and if RXNE is 0 there, it stays 0. It rests on
the exit test as 90_conflicts.md C1 resolves it (decision D13, log entry 9). -/
def Obligations.TransmitStateNeverLeavesUnaided : Prop :=
  (∀ (i : Instr) (s : State), (i = .step ∨ i = .rdDr ∨ i = .rdSr ∨ ∃ v, i = .wrDr v) →
    s.cr1.getLsbD 6 = true → s.state = .txActive → s.sr.getLsbD 1 = true →
    ∃ t, exec i s = .next t ∧ t.cr1.getLsbD 6 = true ∧ t.state = .txActive ∧ t.sr.getLsbD 1 = true ∧
      (s.sr.getLsbD 0 = false → t.sr.getLsbD 0 = false)) ∧
  ∀ (is : List Instr) (s : State), (∀ i ∈ is, i = .step ∨ i = .rdDr ∨ i = .rdSr ∨ ∃ v, i = .wrDr v) →
    s.cr1.getLsbD 6 = true → s.state = .txActive → s.sr.getLsbD 1 = true →
    ∃ t, execAll is s = .next t ∧ t.cr1.getLsbD 6 = true ∧ t.state = .txActive ∧ t.sr.getLsbD 1 = true ∧
      (s.sr.getLsbD 0 = false → t.sr.getLsbD 0 = false)

/-- R152, which the spec derives from R135 and R146: from the step that enters RECOVERY at cycle `e`, the block stays in
RECOVERY for every smaller number of further enabled steps and is in IDLE after exactly `10 - (e mod 10)`, 10 or,
before the wrap of `cycle`, `2^32 - e` of them; that is between 1 and 10. -/
def Obligations.RecoveryLastsUntilAMultipleOfTen : Prop :=
  ∀ s t : State, s.cr1.getLsbD 6 = true → s.state = .error → exec .step s = .next t → t.state = .recovery →
    1 ≤ recoveryDuration t.cycle.toNat ∧ recoveryDuration t.cycle.toNat ≤ 10 ∧
    (∀ k, k < recoveryDuration t.cycle.toNat →
      ∃ u, execAll (List.replicate k .step) t = .next u ∧ u.state = .recovery) ∧
    ∃ u, execAll (List.replicate (recoveryDuration t.cycle.toNat) .step) t = .next u ∧ u.state = .idle

/-- R154, which the spec derives from R133 and R153: between two resets the number of visited states never falls, but
for a visit counter that wraps; a RESET makes it 0. -/
def Obligations.VisitedStatesNeverFall : Prop :=
  (∀ (i : Instr) (s t : State), exec i s = .next t → i ≠ .reset →
    (∀ q, s.visits.get q ≠ 0xFFFFFFFF) → visitedCount s ≤ visitedCount t) ∧
  ∀ s t : State, exec .reset s = .next t → visitedCount t = 0

/-- R153: the metric is the number of states with a non-zero visit counter times 100/6 percent, exactly (decision D23);
it takes one of seven values; PEEK selector 90 returns the number; right after reset it is 0. -/
def Obligations.StateCoverageIsVisitedSixths : Prop :=
  (∀ s : State,
    stateCoverage s = ((allStates.filter fun q => s.visits.get q ≠ 0).length : Rat) * 100 / 6 ∧
    stateCoverage s ∈ [(0 : Rat), 50 / 3, 100 / 3, 50, 200 / 3, 250 / 3, 100] ∧
    ∃ t v, decode ⟨0b110#3 ++ 90#32, 0⟩ = .ok (.peek .visited) ∧ exec (.peek .visited) s = .next t ∧ t.result = some v ∧
      v.toNat = (allStates.filter fun q => s.visits.get q ≠ 0).length) ∧
  stateCoverage State.reset = 0

/-- R130, R131: a push appends to the bytes waiting and writes one entry; a pop removes the oldest and writes none. So
bytes leave a FIFO in the order they entered. -/
def Obligations.FifosAreFirstInFirstOut : Prop :=
  ∀ f : Fifo,
    (∀ b, f.level.val < 16 → (f.push b).contents = f.contents ++ [b] ∧ (f.push b).head = f.head ∧
      (f.push b).level.val = f.level.val + 1 ∧
      ∀ n : Fin 16, n.val ≠ (f.head.val + f.level.val) % 16 → (f.push b).buf[n] = f.buf[n]) ∧
    (0 < f.level.val → f.contents = f.front :: f.pop.contents ∧ f.pop.head.val = (f.head.val + 1) % 16 ∧
      f.pop.level.val = f.level.val - 1 ∧ f.pop.buf = f.buf)

/-! ## The host: driver (45_host_driver.md) and pseudo-operations (30_encoding.md R91) -/

/-- R195: a successful initialize, with a configuration or the default, leaves an enabled block in IDLE at cycle 0 with SR =
0x00000002, CR1 and CR2 from the configuration and `wcov[CR1] = cr1 | 0x40`, with no event, and clears the driver's busy
flag and statistics; when creating the block fails it returns ALLOCATION_FAILURE and nothing changes. -/
def Obligations.DriverInitEnablesAFreshBlock : Prop :=
  ∀ (depth : Nat) (cfg? : Option Config.DriverConfig) (cfg : Config.DriverConfig) (d : Driver.DriverState),
    cfg = cfg?.getD Config.defaultConfig →
    Driver.call depth (.init false cfg?) d = .ok (.code .allocationFailure, d) ∧
    Driver.call depth (.init true cfg?) d = .ok (.code .ok,
      { d with
        initialized := true, busy := false, cfg := cfg, st := ⟨0, 0, 0, 0⟩,
        hw := some { State.reset with
                     cr1 := Driver.cr1Of cfg ||| 0x40
                     cr2 := Driver.cr2Of cfg
                     wcov := ⟨Driver.cr1Of cfg ||| 0x40, Driver.cr2Of cfg, 0, 0⟩ } })

/-- R193, R194: the CR1 and CR2 values the driver writes, bit by bit; every bit not named is 0. The baud codes are OPEN
parameters: only which of the three is used is said (decision D28). -/
def Obligations.DriverEncodesTheConfiguration : Prop :=
  ∀ cfg : Config.DriverConfig,
    ((Driver.cr1Of cfg).getLsbD 0 = cfg.cpha.getLsbD 0 ∧ (Driver.cr1Of cfg).getLsbD 1 = cfg.cpol.getLsbD 0 ∧
      (Driver.cr1Of cfg).getLsbD 2 = cfg.master ∧
      (cfg.baud ≤ 1000000 → br (Driver.cr1Of cfg) = Config.brLe1M) ∧
      (1000000 < cfg.baud ∧ cfg.baud ≤ 2000000 → br (Driver.cr1Of cfg) = Config.brLe2M) ∧
      (2000000 < cfg.baud → br (Driver.cr1Of cfg) = Config.brGt2M) ∧
      ((Driver.cr1Of cfg).getLsbD 11 = true ↔ cfg.dataSize = .bits16) ∧
      ∀ k, 6 ≤ k → k ≠ 11 → (Driver.cr1Of cfg).getLsbD k = false) ∧
    ∀ k, (Driver.cr2Of cfg).getLsbD k = if k = 2 then cfg.ssm else false

/-- R197: a transfer with a null or empty buffer or on an uninitialized driver returns INVALID_ARGUMENT, else one while
another runs returns BUSY; neither changes anything. -/
def Obligations.RejectedTransfersChangeNothing : Prop :=
  ∀ (depth : Nat) (d : Driver.DriverState) (tx : Option (List Byte)) (rx : Bool) (ms : Word),
    (d.initialized = false ∨ tx = none ∨ tx = some [] →
      Driver.call depth (.transfer tx rx ms) d = .ok (.transferred .invalidArgument [], d)) ∧
    (∀ b rest, d.initialized = true → d.busy = true → tx = some (b :: rest) →
      Driver.call depth (.transfer tx rx ms) d = .ok (.transferred .busy [], d))

/-- R196: a wait of budget `B` either sees its predicate hold on SR, or times out after exactly `B` steps with the
predicate still failing; it issues nothing but STEP and reads of SR, so CR1, CR2, the write coverage and every read
coverage bitmap but SR's are kept. -/
def Obligations.WaitIsBoundedByItsBudget : Prop :=
  ∀ (pred : Word → Bool) (b : Nat) (s : State), ∃ r t, Driver.waitSr pred b s = (r, t) ∧
    (r = .ok ∨ r = .timeout) ∧ (r = .ok → pred t.sr = true) ∧
    (r = .timeout → pred t.sr = false ∧ t.cycle = s.cycle + BitVec.ofNat 32 b) ∧
    (∃ n, n ≤ b ∧ t.cycle = s.cycle + BitVec.ofNat 32 n) ∧
    t.cr1 = s.cr1 ∧ t.cr2 = s.cr2 ∧ t.wcov = s.wcov ∧ t.rcov = { s.rcov with sr := t.rcov.sr }

/-- R201: a transfer that passed its checks counts one transfer and `length` bytes whatever its outcome, adds the cycles
that elapsed since its start to the latency, counts one error exactly when the result is not OK, and ends not busy. This
is the driver without hooks; HooksRunAroundTheTransfer says it with them. -/
def Obligations.TransferStatisticsAreUnconditional : Prop :=
  ∀ (depth : Nat) (d : Driver.DriverState) (s : State) (b : Byte) (rest : List Byte) (rx : Bool) (ms : Word),
    d.initialized = true → d.busy = false → d.hw = some s → d.preHook = none → d.postHook = none →
    ∃ (r : Driver.Result) (got : List Byte) (t : State),
      Driver.call depth (.transfer (some (b :: rest)) rx ms) d = .ok (.transferred r got,
        { d with
          st := { transfers := d.st.transfers + 1
                  bytes := d.st.bytes + BitVec.ofNat 32 (rest.length + 1)
                  latency := d.st.latency + (t.cycle - s.cycle)
                  errors := if r = .ok then d.st.errors else d.st.errors + 1 }
          hw := some t })

/-- R198, R201, R202: the pre hook runs with the driver busy, after the start is sampled and before the first byte; the
statistics are then updated, busy is cleared, and the post hook runs last, on the final result, its steps uncounted. Any
hook is meant, one that calls the driver included. A hook that has no answer, or a pre hook that releases the block,
leaves the transfer with none: that is the model's choice (log entry 16). -/
def Obligations.HooksRunAroundTheTransfer : Prop :=
  ∀ (depth : Nat) (d : Driver.DriverState) (s : State) (b : Byte) (rest : List Byte) (rx : Bool) (ms : Word),
    d.initialized = true → d.busy = false → d.hw = some s →
    (∀ (h : Driver.Hook) (e : Driver.Stuck), d.preHook = some h →
      Driver.runHook depth h { d with busy := true, hw := some (issue (.peek .cycle) s) } = .error e →
      Driver.call depth (.transfer (some (b :: rest)) rx ms) d = .error e) ∧
    (∀ (h : Driver.Hook) (d1 : Driver.DriverState), d.preHook = some h →
      Driver.runHook depth h { d with busy := true, hw := some (issue (.peek .cycle) s) } = .ok d1 → d1.hw = none →
      Driver.call depth (.transfer (some (b :: rest)) rx ms) d = .error .noBlock) ∧
    ∀ (d1 : Driver.DriverState) (s1 : State),
      ((d.preHook = none ∧ d1 = { d with busy := true, hw := some (issue (.peek .cycle) s) }) ∨
        ∃ h, d.preHook = some h ∧
          Driver.runHook depth h { d with busy := true, hw := some (issue (.peek .cycle) s) } = .ok d1) →
      d1.hw = some s1 →
      ∃ (r : Driver.Result) (got : List Byte) (t : State) (d2 : Driver.DriverState),
        Driver.moveBytes (ms.toNat * 1000) (b :: rest) s1 = ((r, got), t) ∧
        d2 = { d1 with
               busy := false
               st := { transfers := d1.st.transfers + 1
                       bytes := d1.st.bytes + BitVec.ofNat 32 (rest.length + 1)
                       latency := d1.st.latency + (t.cycle - s.cycle)
                       errors := if r = .ok then d1.st.errors else d1.st.errors + 1 }
               hw := some (issue (.peek .cycle) t) } ∧
        (d1.postHook = none → Driver.call depth (.transfer (some (b :: rest)) rx ms) d =
          .ok (.transferred r (if rx then got else []), d2)) ∧
        ∀ h : Driver.Result → Driver.Hook, d1.postHook = some h →
          (∀ d3, Driver.runHook depth (h r) d2 = .ok d3 →
            Driver.call depth (.transfer (some (b :: rest)) rx ms) d = .ok (.transferred r (if rx then got else []), d3)) ∧
          ∀ e, Driver.runHook depth (h r) d2 = .error e →
            Driver.call depth (.transfer (some (b :: rest)) rx ms) d = .error e

/-- R203 and R197: a hook's block operations are ordinary operations, and it may go on by what they return; a hook that
calls transfer while busy is set, as it is in a pre hook, receives BUSY. So a transfer whose pre hook does only that
ends as if it had no pre hook. A post hook finds busy clear (R202, decision D33, log entry 24). -/
def Obligations.TransferFromAHookReceivesBusy : Prop :=
  (∀ (depth : Nat) (d : Driver.DriverState) (s : State) (i : Instr) (next : Option Word → Driver.Hook), d.hw = some s →
    ∃ t, exec i s = .next t ∧
      Driver.runHook depth (.op i next) d = Driver.runHook depth (next t.result) { d with hw := some t }) ∧
  (∀ (depth : Nat) (d : Driver.DriverState) (b : Byte) (rest : List Byte) (rx : Bool) (ms : Word)
      (next : Driver.Reply → Driver.Hook), d.initialized = true → d.busy = true →
    Driver.runHook depth (.call (.transfer (some (b :: rest)) rx ms) next) d =
      Driver.runHook depth (next (.transferred .busy [])) d) ∧
  ∀ (depth : Nat) (d : Driver.DriverState) (s : State) (b b' : Byte) (rest rest' : List Byte) (rx rx' : Bool)
      (ms ms' : Word) (next : Driver.Reply → Driver.Hook),
    d.initialized = true → d.busy = false → d.hw = some s → d.postHook = none →
    d.preHook = some (.call (.transfer (some (b' :: rest')) rx' ms') next) → next (.transferred .busy []) = .done →
    ∃ (reply : Driver.Reply) (d' : Driver.DriverState),
      Driver.call depth (.transfer (some (b :: rest)) rx ms) { d with preHook := none } = .ok (reply, d') ∧
      Driver.call depth (.transfer (some (b :: rest)) rx ms) d = .ok (reply, { d' with preHook := d.preHook })

/-- R198, steps 1 to 5 for one byte: when both waits succeed, the byte read is the oldest received one, 0 when none is
there, and exactly 100 steps follow; when a wait fails, its result is the byte's and nothing is read. -/
def Obligations.ByteMovesWhenBothWaitsSucceed : Prop :=
  ∀ (budget : Nat) (b : Byte) (s s1 : State) (r : Driver.Result),
    Driver.waitSr (fun sr => sr.getLsbD 1) budget s = (r, s1) →
    (r ≠ .ok → Driver.moveByte budget b s = (r, none, s1)) ∧
    (r = .ok → ∀ (s2 s3 : State) (r' : Driver.Result), exec (.wrDr (b.setWidth 32)) s1 = .next s2 →
      Driver.waitSr (fun sr => sr.getLsbD 0) budget s2 = (r', s3) →
      (r' ≠ .ok → Driver.moveByte budget b s = (r', none, s3)) ∧
      (r' = .ok → ∃ v t, Driver.moveByte budget b s = (.ok, some v, t) ∧
        (∀ c cs, s3.rx.contents = c :: cs → v = c) ∧ (s3.rx.contents = [] → v = 0) ∧
        execAll (.rdDr :: List.replicate 100 .step) s3 = .next t ∧ t.cycle = s3.cycle + 100))

/-- R199: on the first byte whose wait fails the loop stops; the received bytes of those before it, one each, are kept, in
the loop and in what the transfer gives back. -/
def Obligations.CompletedBytesSurviveATimeout : Prop :=
  ∀ (budget : Nat) (before rest vs : List Byte) (b : Byte) (s s1 s2 : State) (r : Driver.Result),
    Driver.byteLoop budget before s = (.ok, vs, s1) → Driver.moveByte budget b s1 = (r, none, s2) → r ≠ .ok →
    vs.length = before.length ∧
    Driver.byteLoop budget (before ++ b :: rest) s = (r, vs, s2) ∧
    ∀ (depth : Nat) (d : Driver.DriverState) (s0 : State) (ms : Word),
      d.initialized = true → d.busy = false → d.preHook = none → d.postHook = none → d.hw = some s0 →
      s = issue (.peek .cycle) s0 → budget = ms.toNat * 1000 →
      ∃ d', Driver.call depth (.transfer (some (before ++ b :: rest)) true ms) d = .ok (.transferred r vs, d')

/-- The invariant behind R210, call by call: every call of a driver without hooks answers, and keeps its block, if it has
one, not busy, enabled, in IDLE or TX_ACTIVE, with TXE set and RXNE and BSY clear. It rests on the exit test as
90_conflicts.md C1 resolves it (decision D13, log entry 9). -/
def Obligations.EveryDriverCallKeepsTheTransmitWait : Prop :=
  ∀ (depth : Nat) (c : Driver.Call) (d : Driver.DriverState), Driver.TransmitWait d →
    ∃ reply d', Driver.call depth c d = .ok (reply, d') ∧ Driver.TransmitWait d'

/-- R210, which the spec derives from R138, R142, R147, R150 and R198: on a driver whose block was made by initialize and
that has issued only driver calls and no hooks, every transfer of at least one byte returns TIMEOUT, after exactly its
budget of steps, with nothing received. It rests on the exit test as 90_conflicts.md C1 resolves it (decision D13, log
entry 9): the source's own scenario 1 expects OK. -/
def Obligations.DriverOnlyTransfersTimeOut : Prop :=
  ∀ (depth : Nat) (d0 d : Driver.DriverState) (calls : List Driver.Call) (b : Byte) (rest : List Byte) (rx : Bool)
      (ms : Word),
    d0.initialized = false → d0.hw = none → d0.preHook = none → d0.postHook = none →
    Driver.callAll depth calls d0 = .ok d → d.initialized = true →
    ∃ d' s t, d.hw = some s ∧
      Driver.call depth (.transfer (some (b :: rest)) rx ms) d = .ok (.transferred .timeout [], d') ∧ d'.hw = some t ∧ t.cycle = s.cycle + BitVec.ofNat 32 (ms.toNat * 1000)

/-- R204: set-baudrate replaces CR1 bits 5:3 by the baud code and the stored baud rate, keeps every other bit of CR1, and
disturbs nothing else of the block but the coverage of CR1; on an uninitialized driver it returns INVALID_ARGUMENT and
issues nothing. -/
def Obligations.SetBaudrateRewritesThePrescaler : Prop :=
  ∀ (depth : Nat) (d : Driver.DriverState) (baud : Int),
    (d.initialized = false → Driver.call depth (.setBaudrate baud) d = .ok (.code .invalidArgument, d)) ∧
    ∀ s, d.initialized = true → d.hw = some s → ∃ t, Driver.call depth (.setBaudrate baud) d =
        .ok (.code .ok, { d with cfg := { d.cfg with baud := baud }, hw := some t }) ∧
      br t.cr1 = Driver.brCode baud ∧
      (∀ k, k < 3 ∨ 6 ≤ k → t.cr1.getLsbD k = s.cr1.getLsbD k) ∧
      t = { s with
            cr1 := t.cr1
            wcov := { s.wcov with cr1 := s.wcov.cr1 ||| t.cr1 }
            rcov := { s.rcov with cr1 := s.rcov.cr1 ||| s.cr1 }
            result := none }

/-- R205 to R208: get-status answers BUSY exactly when busy, else OK; get-efficiency is the exact percentage, 0 when no
bytes or no cycles are counted; the DMA path answers UNSUPPORTED_MODE; none of them touches the driver or its block.
deinitialize releases the block, and every transfer after it is refused with INVALID_ARGUMENT. -/
def Obligations.OtherDriverCallsIssueNothing : Prop :=
  ∀ (depth : Nat) (d : Driver.DriverState),
    Driver.call depth .getStatus d = .ok (.code (if d.busy = true then .busy else .ok), d) ∧
    (∃ q : Rat, Driver.call depth .getEfficiency d = .ok (.percentage q, d) ∧
      (d.st.bytes = 0 ∨ d.st.latency = 0 → q = 0) ∧
      (d.st.bytes ≠ 0 → d.st.latency ≠ 0 → q * (d.st.latency.toNat : Rat) = (d.st.bytes.toNat : Rat) * 1000)) ∧
    Driver.call depth .dma d = .ok (.code .unsupportedMode, d) ∧
    ∃ d', Driver.call depth .deinitialize d = .ok (.code .ok, d') ∧
      d' = { d with initialized := false, hw := none } ∧
      ∀ tx rx ms, Driver.call depth (.transfer tx rx ms) d' = .ok (.transferred .invalidArgument [], d')

/-- R91: `setbits R, M` and `clrbits R, M` set and clear exactly the bits of M in R, for R of CR1, CR2 and SR, and mark
the read coverage of the value read and the write coverage of the value written; `step N` is N steps and `wr DR,
[..]` its writes in order. -/
def Obligations.PseudoOperationsExpandAsStated : Prop :=
  (∀ (s : State) (m : Word),
    Asm.runLine (.setbits .cr1 m) s = { s with
      cr1 := s.cr1 ||| m, rcov := { s.rcov with cr1 := s.rcov.cr1 ||| s.cr1 },
      wcov := { s.wcov with cr1 := s.wcov.cr1 ||| (s.cr1 ||| m) }, result := none } ∧
    Asm.runLine (.clrbits .cr1 m) s = { s with
      cr1 := s.cr1 &&& ~~~m, rcov := { s.rcov with cr1 := s.rcov.cr1 ||| s.cr1 },
      wcov := { s.wcov with cr1 := s.wcov.cr1 ||| (s.cr1 &&& ~~~m) }, result := none } ∧
    Asm.runLine (.setbits .cr2 m) s = { s with
      cr2 := s.cr2 ||| m, rcov := { s.rcov with cr2 := s.rcov.cr2 ||| s.cr2 },
      wcov := { s.wcov with cr2 := s.wcov.cr2 ||| (s.cr2 ||| m) }, result := none } ∧
    Asm.runLine (.clrbits .cr2 m) s = { s with
      cr2 := s.cr2 &&& ~~~m, rcov := { s.rcov with cr2 := s.rcov.cr2 ||| s.cr2 },
      wcov := { s.wcov with cr2 := s.wcov.cr2 ||| (s.cr2 &&& ~~~m) }, result := none } ∧
    Asm.runLine (.setbits .sr m) s = { s with
      sr := s.sr ||| m, rcov := { s.rcov with sr := s.rcov.sr ||| s.sr },
      wcov := { s.wcov with sr := s.wcov.sr ||| (s.sr ||| m) }, result := none } ∧
    Asm.runLine (.clrbits .sr m) s = { s with
      sr := s.sr &&& ~~~m, rcov := { s.rcov with sr := s.rcov.sr ||| s.sr },
      wcov := { s.wcov with sr := s.wcov.sr ||| (s.sr &&& ~~~m) }, result := none }) ∧
  (∀ (n : Nat) (s : State), execAll (List.replicate n .step) s = .next (Asm.runLine (.stepN n) s)) ∧
  ∀ (vs : List Word) (s : State), execAll (vs.map .wrDr) s = .next (Asm.runLine (.wrDrList vs) s)
end

