-- ==== Sys2Proof/Laws/Decode.lean ====
section
/-! SUPPORT. The fields of a request word and the tables of 30_encoding.md, each read back from what it writes. -/

namespace Sys2Proof

@[simp] theorem kindField_requestWord (k : BitVec 3) (sel : Word) : kindField (requestWord k sel) = k := by
  apply BitVec.eq_of_getLsbD_eq
  intro i hi
  simp only [kindField, requestWord, BitVec.getLsbD_extractLsb', BitVec.getLsbD_append]
  simp [hi]

@[simp] theorem selField_requestWord (k : BitVec 3) (sel : Word) : selField (requestWord k sel) = sel := by
  apply BitVec.eq_of_getLsbD_eq
  intro i hi
  simp only [selField, requestWord, BitVec.getLsbD_extractLsb', BitVec.getLsbD_append]
  simp [hi]

/-- A request word is its two fields. -/
theorem requestWord_fields (w : ReqWord) : requestWord (kindField w) (selField w) = w := by
  apply BitVec.eq_of_getLsbD_eq
  intro i hi
  simp only [kindField, selField, requestWord, BitVec.getLsbD_append, BitVec.getLsbD_extractLsb']
  by_cases h : i < 32
  · simp [h]
  · simp only [h, if_false]
    have : i - 32 < 3 := by omega
    simp [this]
    congr 1
    omega

/-- `kind` as a number. -/
theorem kindField_toNat (w : ReqWord) : (kindField w).toNat = w.toNat / 2 ^ 32 := by
  simp [kindField, BitVec.extractLsb'_toNat, Nat.shiftRight_eq_div_pow]
  omega

/-- `sel` as a number. -/
theorem selField_toNat (w : ReqWord) : (selField w).toNat = w.toNat % 2 ^ 32 := by
  simp [selField, BitVec.extractLsb'_toNat]

/-- Two request words are equal exactly when their fields are. -/
theorem requestWord_inj {k k' : BitVec 3} {sel sel' : Word} :
    requestWord k sel = requestWord k' sel' ↔ k = k' ∧ sel = sel' := by
  constructor
  · intro h
    have h1 := congrArg kindField h
    have h2 := congrArg selField h
    simpa using And.intro h1 h2
  · rintro ⟨rfl, rfl⟩; rfl

@[simp] theorem stateOfCode_stateCode (q : FsmState) : stateOfCode (stateCode q) = some q := by cases q <;> rfl

theorem stateCode_lt (q : FsmState) : stateCode q < 6 := by cases q <;> decide

@[simp] theorem offsetReg_regOffset (r : RegName) : offsetReg (regOffset r) = some r := by cases r <;> rfl

theorem offsetReg_eq_some {off : Word} {r : RegName} (h : offsetReg off = some r) : off = regOffset r := by
  unfold offsetReg at h
  split_ifs at h <;> cases h <;> assumption

theorem stateOfCode_eq_some {n : Nat} {q : FsmState} (h : stateOfCode n = some q) : n = stateCode q := by
  unfold stateOfCode at h
  split at h <;> cases h <;> rfl

/-- The unmapped offsets are those no register has. -/
theorem offsetReg_eq_none {off : Word} : offsetReg off = none ↔ mappedOffset off = false := by
  simp only [offsetReg, mappedOffset]
  split_ifs <;> simp_all

@[simp] theorem peekOfSel_selOfPeek (k : PeekItem) : peekOfSel (selOfPeek k) = some k := by
  cases k with
  | matrix i j => cases i <;> cases j <;> rfl
  | visits s => cases s <;> rfl
  | wcov r => cases r <;> rfl
  | rcov r => cases r <;> rfl
  | txBuf k => revert k; decide
  | rxBuf k => revert k; decide
  | _ => rfl

theorem selOfPeek_lt (k : PeekItem) : selOfPeek k < 91 := by
  cases k with
  | matrix i j => cases i <;> cases j <;> decide
  | visits s => cases s <;> decide
  | wcov r => cases r <;> decide
  | rcov r => cases r <;> decide
  | txBuf k => simp [selOfPeek]; omega
  | rxBuf k => simp [selOfPeek]; omega
  | _ => decide

/-- Every selector below 91 names an item whose selector it is. -/
theorem exists_peek_of_lt {n : Nat} (h : n < 91) : ∃ k, peekOfSel n = some k ∧ selOfPeek k = n := by
  have all : ∀ n : Fin 91,
      (match peekOfSel n.val with | some k => decide (selOfPeek k = n.val) | none => false) = true := by decide
  have := all ⟨n, h⟩
  split at this
  · exact ⟨_, by assumption, by simpa using this⟩
  · cases this

/-- No selector from 91 on names an item. -/
theorem peekOfSel_eq_none {n : Nat} (h : 91 ≤ n) : peekOfSel n = none := by
  unfold peekOfSel
  split_ifs <;> first | rfl | omega

end Sys2Proof
end

