-- ==== Sys2Proof/Laws/Operands.lean ====
section
/-! SUPPORT. The small lemmas of the bit-field helpers and of the values indexed by state or by register. -/

namespace Sys2Proof.Machine

/-! Bits of a register value. -/

/-- `v[i] <- b` changes bit `i` and no other. -/
theorem getLsbD_setBit (v : Word) (i : Nat) (b : Bool) (hi : i < 32) (j : Nat) :
    (setBit v i b).getLsbD j = if j = i then b else v.getLsbD j := by
  unfold setBit
  by_cases hj : j < 32
  · by_cases hji : j = i
    · subst hji; cases b <;> simp [hj]
    · by_cases hlt : j < i
      · cases b <;> simp [hj, hji, hlt]
      · have : j - i ≠ 0 := by omega
        cases b <;> simp [hj, hji, this]
  · have hb : ∀ w : Word, w.getLsbD j = false := fun w => BitVec.getLsbD_of_ge w j (by omega)
    simp [hb]
    omega

@[simp] theorem rxne_withRxne (b : Bool) (v : Word) : rxne (withRxne b v) = b := by
  unfold rxne withRxne; rw [getLsbD_setBit _ _ _ (by decide)]; rfl

@[simp] theorem txe_withRxne (b : Bool) (v : Word) : txe (withRxne b v) = txe v := by
  unfold txe withRxne; rw [getLsbD_setBit _ _ _ (by decide)]; rfl

@[simp] theorem txe_withTxe (b : Bool) (v : Word) : txe (withTxe b v) = b := by
  unfold txe withTxe; rw [getLsbD_setBit _ _ _ (by decide)]; rfl

@[simp] theorem rxne_withTxe (b : Bool) (v : Word) : rxne (withTxe b v) = rxne v := by
  unfold rxne withTxe; rw [getLsbD_setBit _ _ _ (by decide)]; rfl

@[simp] theorem bsy_withRxne (b : Bool) (v : Word) : bsy (withRxne b v) = bsy v := by
  unfold bsy withRxne; rw [getLsbD_setBit _ _ _ (by decide)]; rfl

@[simp] theorem bsy_withTxe (b : Bool) (v : Word) : bsy (withTxe b v) = bsy v := by
  unfold bsy withTxe; rw [getLsbD_setBit _ _ _ (by decide)]; rfl

/-- The error bits depend on SR bits 4, 5 and 6 alone. -/
theorem err_congr {v w : Word} (h : ∀ i, 4 ≤ i → i < 7 → v.getLsbD i = w.getLsbD i) : err v = err w := by
  unfold err
  apply BitVec.eq_of_getLsbD_eq
  intro i hi
  simp only [BitVec.getLsbD_extractLsb']
  rw [h (4 + i) (by omega) (by omega)]

@[simp] theorem err_withRxne (b : Bool) (v : Word) : err (withRxne b v) = err v :=
  err_congr fun i h _ => by unfold withRxne; rw [getLsbD_setBit _ _ _ (by decide), if_neg (by omega)]

@[simp] theorem err_withTxe (b : Bool) (v : Word) : err (withTxe b v) = err v :=
  err_congr fun i h _ => by unfold withTxe; rw [getLsbD_setBit _ _ _ (by decide), if_neg (by omega)]

/-! Values per state and per register: read after write. -/

@[simp] theorem PerState.get_set {α : Type} (p : PerState α) (s q : FsmState) (a : α) :
    (p.set s a).get q = if q = s then a else p.get q := by
  cases s <;> cases q <;> rfl

@[simp] theorem PerState.get_uniform {α : Type} (a : α) (q : FsmState) : (PerState.uniform a).get q = a := by
  cases q <;> rfl

/-- Two such values are equal when they agree at every state. -/
theorem PerState.ext_get {α : Type} {p r : PerState α} (h : ∀ q, p.get q = r.get q) : p = r := by
  obtain ⟨a, b, c, d, e, f⟩ := p
  obtain ⟨a', b', c', d', e', f'⟩ := r
  have h0 := h .idle
  have h1 := h .txActive
  have h2 := h .rxActive
  have h3 := h .txrxActive
  have h4 := h .error
  have h5 := h .recovery
  simp_all [PerState.get]

@[simp] theorem PerReg.get_set (p : PerReg) (r q : RegName) (v : Word) :
    (p.set r v).get q = if q = r then v else p.get q := by
  cases r <;> cases q <;> rfl

end Sys2Proof.Machine
end

