-- ==== Sys2Proof/Laws/State.lean ====
section
/-! SUPPORT. One lemma per field per update, so that no later proof unfolds a record update; then what SetState does to
each field. -/

namespace Sys2Proof.Machine

variable (s : State)


/-! `setCr1` -/

@[simp] theorem setCr1_cr1 (v : Word) : (setCr1 v s).cr1 = v := rfl
@[simp] theorem setCr1_cr2 (v : Word) : (setCr1 v s).cr2 = s.cr2 := rfl
@[simp] theorem setCr1_sr (v : Word) : (setCr1 v s).sr = s.sr := rfl
@[simp] theorem setCr1_crc0 (v : Word) : (setCr1 v s).crc0 = s.crc0 := rfl
@[simp] theorem setCr1_crc1 (v : Word) : (setCr1 v s).crc1 = s.crc1 := rfl
@[simp] theorem setCr1_tx (v : Word) : (setCr1 v s).tx = s.tx := rfl
@[simp] theorem setCr1_rx (v : Word) : (setCr1 v s).rx = s.rx := rfl
@[simp] theorem setCr1_state (v : Word) : (setCr1 v s).state = s.state := rfl
@[simp] theorem setCr1_cycle (v : Word) : (setCr1 v s).cycle = s.cycle := rfl
@[simp] theorem setCr1_txcount (v : Word) : (setCr1 v s).txcount = s.txcount := rfl
@[simp] theorem setCr1_rxcount (v : Word) : (setCr1 v s).rxcount = s.rxcount := rfl
@[simp] theorem setCr1_matrix (v : Word) : (setCr1 v s).matrix = s.matrix := rfl
@[simp] theorem setCr1_visits (v : Word) : (setCr1 v s).visits = s.visits := rfl
@[simp] theorem setCr1_wcov (v : Word) : (setCr1 v s).wcov = s.wcov := rfl
@[simp] theorem setCr1_rcov (v : Word) : (setCr1 v s).rcov = s.rcov := rfl
@[simp] theorem setCr1_requests (v : Word) : (setCr1 v s).requests = s.requests := rfl
@[simp] theorem setCr1_result (v : Word) : (setCr1 v s).result = s.result := rfl
@[simp] theorem setCr1_trace (v : Word) : (setCr1 v s).trace = s.trace := rfl

/-! `setCr2` -/

@[simp] theorem setCr2_cr1 (v : Word) : (setCr2 v s).cr1 = s.cr1 := rfl
@[simp] theorem setCr2_cr2 (v : Word) : (setCr2 v s).cr2 = v := rfl
@[simp] theorem setCr2_sr (v : Word) : (setCr2 v s).sr = s.sr := rfl
@[simp] theorem setCr2_crc0 (v : Word) : (setCr2 v s).crc0 = s.crc0 := rfl
@[simp] theorem setCr2_crc1 (v : Word) : (setCr2 v s).crc1 = s.crc1 := rfl
@[simp] theorem setCr2_tx (v : Word) : (setCr2 v s).tx = s.tx := rfl
@[simp] theorem setCr2_rx (v : Word) : (setCr2 v s).rx = s.rx := rfl
@[simp] theorem setCr2_state (v : Word) : (setCr2 v s).state = s.state := rfl
@[simp] theorem setCr2_cycle (v : Word) : (setCr2 v s).cycle = s.cycle := rfl
@[simp] theorem setCr2_txcount (v : Word) : (setCr2 v s).txcount = s.txcount := rfl
@[simp] theorem setCr2_rxcount (v : Word) : (setCr2 v s).rxcount = s.rxcount := rfl
@[simp] theorem setCr2_matrix (v : Word) : (setCr2 v s).matrix = s.matrix := rfl
@[simp] theorem setCr2_visits (v : Word) : (setCr2 v s).visits = s.visits := rfl
@[simp] theorem setCr2_wcov (v : Word) : (setCr2 v s).wcov = s.wcov := rfl
@[simp] theorem setCr2_rcov (v : Word) : (setCr2 v s).rcov = s.rcov := rfl
@[simp] theorem setCr2_requests (v : Word) : (setCr2 v s).requests = s.requests := rfl
@[simp] theorem setCr2_result (v : Word) : (setCr2 v s).result = s.result := rfl
@[simp] theorem setCr2_trace (v : Word) : (setCr2 v s).trace = s.trace := rfl

/-! `setSr` -/

@[simp] theorem setSr_cr1 (v : Word) : (setSr v s).cr1 = s.cr1 := rfl
@[simp] theorem setSr_cr2 (v : Word) : (setSr v s).cr2 = s.cr2 := rfl
@[simp] theorem setSr_sr (v : Word) : (setSr v s).sr = v := rfl
@[simp] theorem setSr_crc0 (v : Word) : (setSr v s).crc0 = s.crc0 := rfl
@[simp] theorem setSr_crc1 (v : Word) : (setSr v s).crc1 = s.crc1 := rfl
@[simp] theorem setSr_tx (v : Word) : (setSr v s).tx = s.tx := rfl
@[simp] theorem setSr_rx (v : Word) : (setSr v s).rx = s.rx := rfl
@[simp] theorem setSr_state (v : Word) : (setSr v s).state = s.state := rfl
@[simp] theorem setSr_cycle (v : Word) : (setSr v s).cycle = s.cycle := rfl
@[simp] theorem setSr_txcount (v : Word) : (setSr v s).txcount = s.txcount := rfl
@[simp] theorem setSr_rxcount (v : Word) : (setSr v s).rxcount = s.rxcount := rfl
@[simp] theorem setSr_matrix (v : Word) : (setSr v s).matrix = s.matrix := rfl
@[simp] theorem setSr_visits (v : Word) : (setSr v s).visits = s.visits := rfl
@[simp] theorem setSr_wcov (v : Word) : (setSr v s).wcov = s.wcov := rfl
@[simp] theorem setSr_rcov (v : Word) : (setSr v s).rcov = s.rcov := rfl
@[simp] theorem setSr_requests (v : Word) : (setSr v s).requests = s.requests := rfl
@[simp] theorem setSr_result (v : Word) : (setSr v s).result = s.result := rfl
@[simp] theorem setSr_trace (v : Word) : (setSr v s).trace = s.trace := rfl

/-! `txPush` -/

@[simp] theorem txPush_cr1 (b : Byte) : (txPush b s).cr1 = s.cr1 := rfl
@[simp] theorem txPush_cr2 (b : Byte) : (txPush b s).cr2 = s.cr2 := rfl
@[simp] theorem txPush_sr (b : Byte) : (txPush b s).sr = s.sr := rfl
@[simp] theorem txPush_crc0 (b : Byte) : (txPush b s).crc0 = s.crc0 := rfl
@[simp] theorem txPush_crc1 (b : Byte) : (txPush b s).crc1 = s.crc1 := rfl
@[simp] theorem txPush_tx (b : Byte) : (txPush b s).tx = s.tx.push b := rfl
@[simp] theorem txPush_rx (b : Byte) : (txPush b s).rx = s.rx := rfl
@[simp] theorem txPush_state (b : Byte) : (txPush b s).state = s.state := rfl
@[simp] theorem txPush_cycle (b : Byte) : (txPush b s).cycle = s.cycle := rfl
@[simp] theorem txPush_txcount (b : Byte) : (txPush b s).txcount = s.txcount := rfl
@[simp] theorem txPush_rxcount (b : Byte) : (txPush b s).rxcount = s.rxcount := rfl
@[simp] theorem txPush_matrix (b : Byte) : (txPush b s).matrix = s.matrix := rfl
@[simp] theorem txPush_visits (b : Byte) : (txPush b s).visits = s.visits := rfl
@[simp] theorem txPush_wcov (b : Byte) : (txPush b s).wcov = s.wcov := rfl
@[simp] theorem txPush_rcov (b : Byte) : (txPush b s).rcov = s.rcov := rfl
@[simp] theorem txPush_requests (b : Byte) : (txPush b s).requests = s.requests := rfl
@[simp] theorem txPush_result (b : Byte) : (txPush b s).result = s.result := rfl
@[simp] theorem txPush_trace (b : Byte) : (txPush b s).trace = s.trace := rfl

/-! `txPop` -/

@[simp] theorem txPop_cr1 : (txPop s).cr1 = s.cr1 := rfl
@[simp] theorem txPop_cr2 : (txPop s).cr2 = s.cr2 := rfl
@[simp] theorem txPop_sr : (txPop s).sr = s.sr := rfl
@[simp] theorem txPop_crc0 : (txPop s).crc0 = s.crc0 := rfl
@[simp] theorem txPop_crc1 : (txPop s).crc1 = s.crc1 := rfl
@[simp] theorem txPop_tx : (txPop s).tx = s.tx.pop := rfl
@[simp] theorem txPop_rx : (txPop s).rx = s.rx := rfl
@[simp] theorem txPop_state : (txPop s).state = s.state := rfl
@[simp] theorem txPop_cycle : (txPop s).cycle = s.cycle := rfl
@[simp] theorem txPop_txcount : (txPop s).txcount = s.txcount := rfl
@[simp] theorem txPop_rxcount : (txPop s).rxcount = s.rxcount := rfl
@[simp] theorem txPop_matrix : (txPop s).matrix = s.matrix := rfl
@[simp] theorem txPop_visits : (txPop s).visits = s.visits := rfl
@[simp] theorem txPop_wcov : (txPop s).wcov = s.wcov := rfl
@[simp] theorem txPop_rcov : (txPop s).rcov = s.rcov := rfl
@[simp] theorem txPop_requests : (txPop s).requests = s.requests := rfl
@[simp] theorem txPop_result : (txPop s).result = s.result := rfl
@[simp] theorem txPop_trace : (txPop s).trace = s.trace := rfl

/-! `rxPush` -/

@[simp] theorem rxPush_cr1 (b : Byte) : (rxPush b s).cr1 = s.cr1 := rfl
@[simp] theorem rxPush_cr2 (b : Byte) : (rxPush b s).cr2 = s.cr2 := rfl
@[simp] theorem rxPush_sr (b : Byte) : (rxPush b s).sr = s.sr := rfl
@[simp] theorem rxPush_crc0 (b : Byte) : (rxPush b s).crc0 = s.crc0 := rfl
@[simp] theorem rxPush_crc1 (b : Byte) : (rxPush b s).crc1 = s.crc1 := rfl
@[simp] theorem rxPush_tx (b : Byte) : (rxPush b s).tx = s.tx := rfl
@[simp] theorem rxPush_rx (b : Byte) : (rxPush b s).rx = s.rx.push b := rfl
@[simp] theorem rxPush_state (b : Byte) : (rxPush b s).state = s.state := rfl
@[simp] theorem rxPush_cycle (b : Byte) : (rxPush b s).cycle = s.cycle := rfl
@[simp] theorem rxPush_txcount (b : Byte) : (rxPush b s).txcount = s.txcount := rfl
@[simp] theorem rxPush_rxcount (b : Byte) : (rxPush b s).rxcount = s.rxcount := rfl
@[simp] theorem rxPush_matrix (b : Byte) : (rxPush b s).matrix = s.matrix := rfl
@[simp] theorem rxPush_visits (b : Byte) : (rxPush b s).visits = s.visits := rfl
@[simp] theorem rxPush_wcov (b : Byte) : (rxPush b s).wcov = s.wcov := rfl
@[simp] theorem rxPush_rcov (b : Byte) : (rxPush b s).rcov = s.rcov := rfl
@[simp] theorem rxPush_requests (b : Byte) : (rxPush b s).requests = s.requests := rfl
@[simp] theorem rxPush_result (b : Byte) : (rxPush b s).result = s.result := rfl
@[simp] theorem rxPush_trace (b : Byte) : (rxPush b s).trace = s.trace := rfl

/-! `rxPop` -/

@[simp] theorem rxPop_cr1 : (rxPop s).cr1 = s.cr1 := rfl
@[simp] theorem rxPop_cr2 : (rxPop s).cr2 = s.cr2 := rfl
@[simp] theorem rxPop_sr : (rxPop s).sr = s.sr := rfl
@[simp] theorem rxPop_crc0 : (rxPop s).crc0 = s.crc0 := rfl
@[simp] theorem rxPop_crc1 : (rxPop s).crc1 = s.crc1 := rfl
@[simp] theorem rxPop_tx : (rxPop s).tx = s.tx := rfl
@[simp] theorem rxPop_rx : (rxPop s).rx = s.rx.pop := rfl
@[simp] theorem rxPop_state : (rxPop s).state = s.state := rfl
@[simp] theorem rxPop_cycle : (rxPop s).cycle = s.cycle := rfl
@[simp] theorem rxPop_txcount : (rxPop s).txcount = s.txcount := rfl
@[simp] theorem rxPop_rxcount : (rxPop s).rxcount = s.rxcount := rfl
@[simp] theorem rxPop_matrix : (rxPop s).matrix = s.matrix := rfl
@[simp] theorem rxPop_visits : (rxPop s).visits = s.visits := rfl
@[simp] theorem rxPop_wcov : (rxPop s).wcov = s.wcov := rfl
@[simp] theorem rxPop_rcov : (rxPop s).rcov = s.rcov := rfl
@[simp] theorem rxPop_requests : (rxPop s).requests = s.requests := rfl
@[simp] theorem rxPop_result : (rxPop s).result = s.result := rfl
@[simp] theorem rxPop_trace : (rxPop s).trace = s.trace := rfl

/-! `tickCycle` -/

@[simp] theorem tickCycle_cr1 : (tickCycle s).cr1 = s.cr1 := rfl
@[simp] theorem tickCycle_cr2 : (tickCycle s).cr2 = s.cr2 := rfl
@[simp] theorem tickCycle_sr : (tickCycle s).sr = s.sr := rfl
@[simp] theorem tickCycle_crc0 : (tickCycle s).crc0 = s.crc0 := rfl
@[simp] theorem tickCycle_crc1 : (tickCycle s).crc1 = s.crc1 := rfl
@[simp] theorem tickCycle_tx : (tickCycle s).tx = s.tx := rfl
@[simp] theorem tickCycle_rx : (tickCycle s).rx = s.rx := rfl
@[simp] theorem tickCycle_state : (tickCycle s).state = s.state := rfl
@[simp] theorem tickCycle_cycle : (tickCycle s).cycle = s.cycle + 1 := rfl
@[simp] theorem tickCycle_txcount : (tickCycle s).txcount = s.txcount := rfl
@[simp] theorem tickCycle_rxcount : (tickCycle s).rxcount = s.rxcount := rfl
@[simp] theorem tickCycle_matrix : (tickCycle s).matrix = s.matrix := rfl
@[simp] theorem tickCycle_visits : (tickCycle s).visits = s.visits := rfl
@[simp] theorem tickCycle_wcov : (tickCycle s).wcov = s.wcov := rfl
@[simp] theorem tickCycle_rcov : (tickCycle s).rcov = s.rcov := rfl
@[simp] theorem tickCycle_requests : (tickCycle s).requests = s.requests := rfl
@[simp] theorem tickCycle_result : (tickCycle s).result = s.result := rfl
@[simp] theorem tickCycle_trace : (tickCycle s).trace = s.trace := rfl

/-! `countTx` -/

@[simp] theorem countTx_cr1 : (countTx s).cr1 = s.cr1 := rfl
@[simp] theorem countTx_cr2 : (countTx s).cr2 = s.cr2 := rfl
@[simp] theorem countTx_sr : (countTx s).sr = s.sr := rfl
@[simp] theorem countTx_crc0 : (countTx s).crc0 = s.crc0 := rfl
@[simp] theorem countTx_crc1 : (countTx s).crc1 = s.crc1 := rfl
@[simp] theorem countTx_tx : (countTx s).tx = s.tx := rfl
@[simp] theorem countTx_rx : (countTx s).rx = s.rx := rfl
@[simp] theorem countTx_state : (countTx s).state = s.state := rfl
@[simp] theorem countTx_cycle : (countTx s).cycle = s.cycle := rfl
@[simp] theorem countTx_txcount : (countTx s).txcount = s.txcount + 1 := rfl
@[simp] theorem countTx_rxcount : (countTx s).rxcount = s.rxcount := rfl
@[simp] theorem countTx_matrix : (countTx s).matrix = s.matrix := rfl
@[simp] theorem countTx_visits : (countTx s).visits = s.visits := rfl
@[simp] theorem countTx_wcov : (countTx s).wcov = s.wcov := rfl
@[simp] theorem countTx_rcov : (countTx s).rcov = s.rcov := rfl
@[simp] theorem countTx_requests : (countTx s).requests = s.requests := rfl
@[simp] theorem countTx_result : (countTx s).result = s.result := rfl
@[simp] theorem countTx_trace : (countTx s).trace = s.trace := rfl

/-! `countRx` -/

@[simp] theorem countRx_cr1 : (countRx s).cr1 = s.cr1 := rfl
@[simp] theorem countRx_cr2 : (countRx s).cr2 = s.cr2 := rfl
@[simp] theorem countRx_sr : (countRx s).sr = s.sr := rfl
@[simp] theorem countRx_crc0 : (countRx s).crc0 = s.crc0 := rfl
@[simp] theorem countRx_crc1 : (countRx s).crc1 = s.crc1 := rfl
@[simp] theorem countRx_tx : (countRx s).tx = s.tx := rfl
@[simp] theorem countRx_rx : (countRx s).rx = s.rx := rfl
@[simp] theorem countRx_state : (countRx s).state = s.state := rfl
@[simp] theorem countRx_cycle : (countRx s).cycle = s.cycle := rfl
@[simp] theorem countRx_txcount : (countRx s).txcount = s.txcount := rfl
@[simp] theorem countRx_rxcount : (countRx s).rxcount = s.rxcount + 1 := rfl
@[simp] theorem countRx_matrix : (countRx s).matrix = s.matrix := rfl
@[simp] theorem countRx_visits : (countRx s).visits = s.visits := rfl
@[simp] theorem countRx_wcov : (countRx s).wcov = s.wcov := rfl
@[simp] theorem countRx_rcov : (countRx s).rcov = s.rcov := rfl
@[simp] theorem countRx_requests : (countRx s).requests = s.requests := rfl
@[simp] theorem countRx_result : (countRx s).result = s.result := rfl
@[simp] theorem countRx_trace : (countRx s).trace = s.trace := rfl

/-! `coverWrite` -/

@[simp] theorem coverWrite_cr1 (r : RegName) (v : Word) : (coverWrite r v s).cr1 = s.cr1 := rfl
@[simp] theorem coverWrite_cr2 (r : RegName) (v : Word) : (coverWrite r v s).cr2 = s.cr2 := rfl
@[simp] theorem coverWrite_sr (r : RegName) (v : Word) : (coverWrite r v s).sr = s.sr := rfl
@[simp] theorem coverWrite_crc0 (r : RegName) (v : Word) : (coverWrite r v s).crc0 = s.crc0 := rfl
@[simp] theorem coverWrite_crc1 (r : RegName) (v : Word) : (coverWrite r v s).crc1 = s.crc1 := rfl
@[simp] theorem coverWrite_tx (r : RegName) (v : Word) : (coverWrite r v s).tx = s.tx := rfl
@[simp] theorem coverWrite_rx (r : RegName) (v : Word) : (coverWrite r v s).rx = s.rx := rfl
@[simp] theorem coverWrite_state (r : RegName) (v : Word) : (coverWrite r v s).state = s.state := rfl
@[simp] theorem coverWrite_cycle (r : RegName) (v : Word) : (coverWrite r v s).cycle = s.cycle := rfl
@[simp] theorem coverWrite_txcount (r : RegName) (v : Word) : (coverWrite r v s).txcount = s.txcount := rfl
@[simp] theorem coverWrite_rxcount (r : RegName) (v : Word) : (coverWrite r v s).rxcount = s.rxcount := rfl
@[simp] theorem coverWrite_matrix (r : RegName) (v : Word) : (coverWrite r v s).matrix = s.matrix := rfl
@[simp] theorem coverWrite_visits (r : RegName) (v : Word) : (coverWrite r v s).visits = s.visits := rfl
@[simp] theorem coverWrite_wcov (r : RegName) (v : Word) : (coverWrite r v s).wcov = s.wcov.set r (s.wcov.get r ||| v) := rfl
@[simp] theorem coverWrite_rcov (r : RegName) (v : Word) : (coverWrite r v s).rcov = s.rcov := rfl
@[simp] theorem coverWrite_requests (r : RegName) (v : Word) : (coverWrite r v s).requests = s.requests := rfl
@[simp] theorem coverWrite_result (r : RegName) (v : Word) : (coverWrite r v s).result = s.result := rfl
@[simp] theorem coverWrite_trace (r : RegName) (v : Word) : (coverWrite r v s).trace = s.trace := rfl

/-! `coverRead` -/

@[simp] theorem coverRead_cr1 (r : RegName) (v : Word) : (coverRead r v s).cr1 = s.cr1 := rfl
@[simp] theorem coverRead_cr2 (r : RegName) (v : Word) : (coverRead r v s).cr2 = s.cr2 := rfl
@[simp] theorem coverRead_sr (r : RegName) (v : Word) : (coverRead r v s).sr = s.sr := rfl
@[simp] theorem coverRead_crc0 (r : RegName) (v : Word) : (coverRead r v s).crc0 = s.crc0 := rfl
@[simp] theorem coverRead_crc1 (r : RegName) (v : Word) : (coverRead r v s).crc1 = s.crc1 := rfl
@[simp] theorem coverRead_tx (r : RegName) (v : Word) : (coverRead r v s).tx = s.tx := rfl
@[simp] theorem coverRead_rx (r : RegName) (v : Word) : (coverRead r v s).rx = s.rx := rfl
@[simp] theorem coverRead_state (r : RegName) (v : Word) : (coverRead r v s).state = s.state := rfl
@[simp] theorem coverRead_cycle (r : RegName) (v : Word) : (coverRead r v s).cycle = s.cycle := rfl
@[simp] theorem coverRead_txcount (r : RegName) (v : Word) : (coverRead r v s).txcount = s.txcount := rfl
@[simp] theorem coverRead_rxcount (r : RegName) (v : Word) : (coverRead r v s).rxcount = s.rxcount := rfl
@[simp] theorem coverRead_matrix (r : RegName) (v : Word) : (coverRead r v s).matrix = s.matrix := rfl
@[simp] theorem coverRead_visits (r : RegName) (v : Word) : (coverRead r v s).visits = s.visits := rfl
@[simp] theorem coverRead_wcov (r : RegName) (v : Word) : (coverRead r v s).wcov = s.wcov := rfl
@[simp] theorem coverRead_rcov (r : RegName) (v : Word) : (coverRead r v s).rcov = s.rcov.set r (s.rcov.get r ||| v) := rfl
@[simp] theorem coverRead_requests (r : RegName) (v : Word) : (coverRead r v s).requests = s.requests := rfl
@[simp] theorem coverRead_result (r : RegName) (v : Word) : (coverRead r v s).result = s.result := rfl
@[simp] theorem coverRead_trace (r : RegName) (v : Word) : (coverRead r v s).trace = s.trace := rfl

/-! `emit` -/

@[simp] theorem emit_cr1 (e : Event) : (emit e s).cr1 = s.cr1 := rfl
@[simp] theorem emit_cr2 (e : Event) : (emit e s).cr2 = s.cr2 := rfl
@[simp] theorem emit_sr (e : Event) : (emit e s).sr = s.sr := rfl
@[simp] theorem emit_crc0 (e : Event) : (emit e s).crc0 = s.crc0 := rfl
@[simp] theorem emit_crc1 (e : Event) : (emit e s).crc1 = s.crc1 := rfl
@[simp] theorem emit_tx (e : Event) : (emit e s).tx = s.tx := rfl
@[simp] theorem emit_rx (e : Event) : (emit e s).rx = s.rx := rfl
@[simp] theorem emit_state (e : Event) : (emit e s).state = s.state := rfl
@[simp] theorem emit_cycle (e : Event) : (emit e s).cycle = s.cycle := rfl
@[simp] theorem emit_txcount (e : Event) : (emit e s).txcount = s.txcount := rfl
@[simp] theorem emit_rxcount (e : Event) : (emit e s).rxcount = s.rxcount := rfl
@[simp] theorem emit_matrix (e : Event) : (emit e s).matrix = s.matrix := rfl
@[simp] theorem emit_visits (e : Event) : (emit e s).visits = s.visits := rfl
@[simp] theorem emit_wcov (e : Event) : (emit e s).wcov = s.wcov := rfl
@[simp] theorem emit_rcov (e : Event) : (emit e s).rcov = s.rcov := rfl
@[simp] theorem emit_requests (e : Event) : (emit e s).requests = s.requests := rfl
@[simp] theorem emit_result (e : Event) : (emit e s).result = s.result := rfl
@[simp] theorem emit_trace (e : Event) : (emit e s).trace = s.trace ++ [e] := rfl

/-! `answer` -/

@[simp] theorem answer_cr1 (r : Option Word) : (answer r s).cr1 = s.cr1 := rfl
@[simp] theorem answer_cr2 (r : Option Word) : (answer r s).cr2 = s.cr2 := rfl
@[simp] theorem answer_sr (r : Option Word) : (answer r s).sr = s.sr := rfl
@[simp] theorem answer_crc0 (r : Option Word) : (answer r s).crc0 = s.crc0 := rfl
@[simp] theorem answer_crc1 (r : Option Word) : (answer r s).crc1 = s.crc1 := rfl
@[simp] theorem answer_tx (r : Option Word) : (answer r s).tx = s.tx := rfl
@[simp] theorem answer_rx (r : Option Word) : (answer r s).rx = s.rx := rfl
@[simp] theorem answer_state (r : Option Word) : (answer r s).state = s.state := rfl
@[simp] theorem answer_cycle (r : Option Word) : (answer r s).cycle = s.cycle := rfl
@[simp] theorem answer_txcount (r : Option Word) : (answer r s).txcount = s.txcount := rfl
@[simp] theorem answer_rxcount (r : Option Word) : (answer r s).rxcount = s.rxcount := rfl
@[simp] theorem answer_matrix (r : Option Word) : (answer r s).matrix = s.matrix := rfl
@[simp] theorem answer_visits (r : Option Word) : (answer r s).visits = s.visits := rfl
@[simp] theorem answer_wcov (r : Option Word) : (answer r s).wcov = s.wcov := rfl
@[simp] theorem answer_rcov (r : Option Word) : (answer r s).rcov = s.rcov := rfl
@[simp] theorem answer_requests (r : Option Word) : (answer r s).requests = s.requests := rfl
@[simp] theorem answer_result (r : Option Word) : (answer r s).result = r := rfl
@[simp] theorem answer_trace (r : Option Word) : (answer r s).trace = s.trace := rfl

/-! `recordChange` -/

@[simp] theorem recordChange_cr1 (q : FsmState) : (recordChange q s).cr1 = s.cr1 := rfl
@[simp] theorem recordChange_cr2 (q : FsmState) : (recordChange q s).cr2 = s.cr2 := rfl
@[simp] theorem recordChange_sr (q : FsmState) : (recordChange q s).sr = s.sr := rfl
@[simp] theorem recordChange_crc0 (q : FsmState) : (recordChange q s).crc0 = s.crc0 := rfl
@[simp] theorem recordChange_crc1 (q : FsmState) : (recordChange q s).crc1 = s.crc1 := rfl
@[simp] theorem recordChange_tx (q : FsmState) : (recordChange q s).tx = s.tx := rfl
@[simp] theorem recordChange_rx (q : FsmState) : (recordChange q s).rx = s.rx := rfl
@[simp] theorem recordChange_state (q : FsmState) : (recordChange q s).state = s.state := rfl
@[simp] theorem recordChange_cycle (q : FsmState) : (recordChange q s).cycle = s.cycle := rfl
@[simp] theorem recordChange_txcount (q : FsmState) : (recordChange q s).txcount = s.txcount := rfl
@[simp] theorem recordChange_rxcount (q : FsmState) : (recordChange q s).rxcount = s.rxcount := rfl
@[simp] theorem recordChange_matrix (q : FsmState) : (recordChange q s).matrix = s.matrix.set s.state ((s.matrix.get s.state).set q (matrixEntry s s.state q + 1)) := rfl
@[simp] theorem recordChange_visits (q : FsmState) : (recordChange q s).visits = s.visits.set q (s.visits.get q + 1) := rfl
@[simp] theorem recordChange_wcov (q : FsmState) : (recordChange q s).wcov = s.wcov := rfl
@[simp] theorem recordChange_rcov (q : FsmState) : (recordChange q s).rcov = s.rcov := rfl
@[simp] theorem recordChange_requests (q : FsmState) : (recordChange q s).requests = s.requests := rfl
@[simp] theorem recordChange_result (q : FsmState) : (recordChange q s).result = s.result := rfl
@[simp] theorem recordChange_trace (q : FsmState) : (recordChange q s).trace = s.trace := rfl

/-! `placeRequest` -/

@[simp] theorem placeRequest_cr1 (r : Request) : (placeRequest r s).cr1 = s.cr1 := rfl
@[simp] theorem placeRequest_cr2 (r : Request) : (placeRequest r s).cr2 = s.cr2 := rfl
@[simp] theorem placeRequest_sr (r : Request) : (placeRequest r s).sr = s.sr := rfl
@[simp] theorem placeRequest_crc0 (r : Request) : (placeRequest r s).crc0 = s.crc0 := rfl
@[simp] theorem placeRequest_crc1 (r : Request) : (placeRequest r s).crc1 = s.crc1 := rfl
@[simp] theorem placeRequest_tx (r : Request) : (placeRequest r s).tx = s.tx := rfl
@[simp] theorem placeRequest_rx (r : Request) : (placeRequest r s).rx = s.rx := rfl
@[simp] theorem placeRequest_state (r : Request) : (placeRequest r s).state = s.state := rfl
@[simp] theorem placeRequest_cycle (r : Request) : (placeRequest r s).cycle = s.cycle := rfl
@[simp] theorem placeRequest_txcount (r : Request) : (placeRequest r s).txcount = s.txcount := rfl
@[simp] theorem placeRequest_rxcount (r : Request) : (placeRequest r s).rxcount = s.rxcount := rfl
@[simp] theorem placeRequest_matrix (r : Request) : (placeRequest r s).matrix = s.matrix := rfl
@[simp] theorem placeRequest_visits (r : Request) : (placeRequest r s).visits = s.visits := rfl
@[simp] theorem placeRequest_wcov (r : Request) : (placeRequest r s).wcov = s.wcov := rfl
@[simp] theorem placeRequest_rcov (r : Request) : (placeRequest r s).rcov = s.rcov := rfl
@[simp] theorem placeRequest_requests (r : Request) : (placeRequest r s).requests = r :: s.requests := rfl
@[simp] theorem placeRequest_result (r : Request) : (placeRequest r s).result = s.result := rfl
@[simp] theorem placeRequest_trace (r : Request) : (placeRequest r s).trace = s.trace := rfl

/-! `setState`: the fields it never touches, the new state, and the tracker's fields in the two cases (R133). -/

@[simp] theorem setState_cr1 (q : FsmState) : (setState q s).cr1 = s.cr1 := by
  unfold setState; split <;> rfl
@[simp] theorem setState_cr2 (q : FsmState) : (setState q s).cr2 = s.cr2 := by
  unfold setState; split <;> rfl
@[simp] theorem setState_sr (q : FsmState) : (setState q s).sr = s.sr := by
  unfold setState; split <;> rfl
@[simp] theorem setState_crc0 (q : FsmState) : (setState q s).crc0 = s.crc0 := by
  unfold setState; split <;> rfl
@[simp] theorem setState_crc1 (q : FsmState) : (setState q s).crc1 = s.crc1 := by
  unfold setState; split <;> rfl
@[simp] theorem setState_tx (q : FsmState) : (setState q s).tx = s.tx := by
  unfold setState; split <;> rfl
@[simp] theorem setState_rx (q : FsmState) : (setState q s).rx = s.rx := by
  unfold setState; split <;> rfl
@[simp] theorem setState_cycle (q : FsmState) : (setState q s).cycle = s.cycle := by
  unfold setState; split <;> rfl
@[simp] theorem setState_txcount (q : FsmState) : (setState q s).txcount = s.txcount := by
  unfold setState; split <;> rfl
@[simp] theorem setState_rxcount (q : FsmState) : (setState q s).rxcount = s.rxcount := by
  unfold setState; split <;> rfl
@[simp] theorem setState_wcov (q : FsmState) : (setState q s).wcov = s.wcov := by
  unfold setState; split <;> rfl
@[simp] theorem setState_rcov (q : FsmState) : (setState q s).rcov = s.rcov := by
  unfold setState; split <;> rfl
@[simp] theorem setState_requests (q : FsmState) : (setState q s).requests = s.requests := by
  unfold setState; split <;> rfl
@[simp] theorem setState_result (q : FsmState) : (setState q s).result = s.result := by
  unfold setState; split <;> rfl
@[simp] theorem setState_state (q : FsmState) : (setState q s).state = q := by
  unfold setState; split <;> simp_all

/-- A self-transition is nothing at all. -/
theorem setState_self {q : FsmState} (h : q = s.state) : setState q s = s := by simp [setState, h]

/-- A change of state, in one equation. -/
theorem setState_of_ne {q : FsmState} (h : q ≠ s.state) :
    setState q s = { emit (.stateChange s.state q) (recordChange q s) with state := q } := by simp [setState, h]

theorem setState_matrix (q : FsmState) : (setState q s).matrix =
    if q = s.state then s.matrix
    else s.matrix.set s.state ((s.matrix.get s.state).set q (matrixEntry s s.state q + 1)) := by
  unfold setState; split <;> rfl

theorem setState_visits (q : FsmState) : (setState q s).visits =
    if q = s.state then s.visits else s.visits.set q (s.visits.get q + 1) := by
  unfold setState; split <;> rfl

theorem setState_trace (q : FsmState) : (setState q s).trace =
    if q = s.state then s.trace else s.trace ++ [.stateChange s.state q] := by
  unfold setState; split <;> rfl

end Sys2Proof.Machine
end

