-- ==== Sys2Proof/Laws/Ops.lean ====
section
/-! SUPPORT. For each shared operation one lemma that says everything it can do; the meanings' proofs cite these. -/

namespace Sys2Proof.Machine

/-! The FIFO primitives, field by field (41_clock_step.md R130, R131). -/

theorem Fifo.push_full {f : Fifo} (h : ¬ f.level.val < 16) (b : Byte) : f.push b = f := by
  unfold Fifo.push; rw [dif_neg h]

@[simp] theorem Fifo.push_head (f : Fifo) (b : Byte) : (f.push b).head = f.head := by
  unfold Fifo.push; split <;> rfl

theorem Fifo.push_level {f : Fifo} (h : f.level.val < 16) (b : Byte) : (f.push b).level.val = f.level.val + 1 := by
  unfold Fifo.push; rw [dif_pos h]

theorem Fifo.push_buf {f : Fifo} (h : f.level.val < 16) (b : Byte) : (f.push b).buf =
    f.buf.set ((f.head.val + f.level.val) % 16) b (Nat.mod_lt _ (by decide)) := by
  unfold Fifo.push; rw [dif_pos h]

@[simp] theorem Fifo.pop_buf (f : Fifo) : f.pop.buf = f.buf := by
  unfold Fifo.pop; split <;> rfl

theorem Fifo.pop_level (f : Fifo) : f.pop.level.val = f.level.val - 1 := by
  unfold Fifo.pop; split
  · rfl
  · omega

theorem Fifo.pop_head {f : Fifo} (h : 0 < f.level.val) : f.pop.head.val = (f.head.val + 1) % 16 := by
  unfold Fifo.pop; rw [if_pos h]; rfl

@[simp] theorem Fifo.length_contents (f : Fifo) : f.contents.length = f.level.val := by
  simp [Fifo.contents]

theorem Fifo.contents_eq_nil {f : Fifo} : f.contents = [] ↔ f.level.val = 0 := by
  rw [← List.length_eq_zero_iff, Fifo.length_contents]

/-! SetState: the two things it can do, and the fields it can change (R133). -/

theorem setState_cases (q : FsmState) (s : State) :
    (q = s.state ∧ setState q s = s) ∨
    (q ≠ s.state ∧ setState q s = { emit (.stateChange s.state q) (recordChange q s) with state := q }) := by
  by_cases h : q = s.state
  · exact .inl ⟨h, setState_self s h⟩
  · exact .inr ⟨h, setState_of_ne s h⟩

theorem setState_frame (q : FsmState) (s : State) : setState q s =
    { s with
      state := q
      matrix := (setState q s).matrix
      visits := (setState q s).visits
      trace := (setState q s).trace } := by
  by_cases h : q = s.state
  · rw [setState_self _ h]; subst h; rfl
  · rw [setState_of_ne _ h]; rfl

/-! The data register's own parts: the fields they can change (40_register_access.md R104, R110). -/

theorem drWritePush_frame (v : Word) (s : State) :
    ∃ tx n, drWritePush v s = { s with tx := tx, txcount := n } := by
  unfold drWritePush; split
  · exact ⟨_, _, rfl⟩
  · exact ⟨s.tx, s.txcount, rfl⟩

theorem drReadPop_frame (s : State) :
    ∃ rx v n, drReadPop s = { s with rx := rx, sr := v, rxcount := n } ∧
      (v = s.sr ∨ (v = withRxne false s.sr ∧ s.rx.level.val = 1)) := by
  unfold drReadPop
  by_cases h : 0 < s.rx.level.val
  · rw [if_pos h]
    unfold clearRxneIfDrained
    by_cases hd : s.rx.pop.level.val = 0
    · refine ⟨s.rx.pop, withRxne false s.sr, s.rxcount + 1, if_pos hd, .inr ⟨rfl, ?_⟩⟩
      rw [Fifo.pop_level] at hd
      omega
    · exact ⟨s.rx.pop, s.sr, s.rxcount + 1, if_neg hd, .inl rfl⟩
  · rw [if_neg h]
    exact ⟨s.rx, s.sr, s.rxcount, rfl, .inl rfl⟩

/-! STEP: what a disabled and an enabled step are, and the arm of each state (R134 to R147). -/

theorem clockStep_disabled {s : State} (h : spe s.cr1 = false) : clockStep s = setState .idle (tickCycle s) := by
  simp [clockStep, h]

theorem clockStep_enabled {s : State} (h : spe s.cr1 = true) :
    clockStep s = recomputeTxe (stateArm (tickCycle s)) := by
  simp [clockStep, h]

/-- The dequeue part of TX_ACTIVE with an empty FIFO: nothing. -/
theorem shiftOut_empty {s : State} (h : s.tx.level.val = 0) : shiftOut s = s := by
  simp [shiftOut, h]

/-- The dequeue part of TX_ACTIVE with a waiting byte: the whole effect, field by field, in one equation. -/
theorem shiftOut_byte {s : State} (h : 0 < s.tx.level.val) : shiftOut s =
    { s with
      tx := s.tx.pop
      rx := if s.rx.level.val < 16 then s.rx.push (~~~s.tx.front) else s.rx
      txcount := s.txcount + 1
      trace := s.trace ++ [.lineOut s.tx.front] } := by
  have hl : shiftOut s = countTx (loopBack s.tx.front (emit (.lineOut s.tx.front) (txPop s))) := if_pos h
  by_cases hr : s.rx.level.val < 16
  · have hb : loopBack s.tx.front (emit (.lineOut s.tx.front) (txPop s)) =
        rxPush (~~~s.tx.front) (emit (.lineOut s.tx.front) (txPop s)) := if_pos hr
    rw [hl, hb, if_pos hr]; rfl
  · have hb : loopBack s.tx.front (emit (.lineOut s.tx.front) (txPop s)) = emit (.lineOut s.tx.front) (txPop s) :=
      if_neg hr
    rw [hl, hb, if_neg hr]; rfl

/-- Everything an arm can do to the state: one of three shapes. Either nothing but a tracked change of FSM state and an
RXNE update, or a moved byte with a tracked change. -/
theorem stateArm_cases (s : State) :
    ∃ q v, (stateArm s = setState q (setSr v s) ∧ (∀ i, 1 ≤ i → v.getLsbD i = s.sr.getLsbD i)) ∨
      (s.state = .txActive ∧ 0 < s.tx.level.val ∧ stateArm s = setState q (shiftOut s)) := by
  have hsr : setSr s.sr s = s := rfl
  unfold stateArm
  cases hs : s.state with
  | idle =>
    simp only [stepIdle]; split
    · exact ⟨.txActive, s.sr, .inl ⟨by rw [hsr], fun _ _ => rfl⟩⟩
    · exact ⟨s.state, s.sr, .inl ⟨by rw [hsr, setState_self s rfl], fun _ _ => rfl⟩⟩
  | txActive =>
    have h2 : (shiftOut s).state = .txActive := by
      by_cases h : 0 < s.tx.level.val
      · rw [shiftOut_byte h]; exact hs
      · rw [shiftOut_empty (by omega)]; exact hs
    have h3 : ∃ q, stepTx s = setState q (shiftOut s) := by
      simp only [stepTx, txExit]
      split
      · split
        · exact ⟨_, rfl⟩
        · exact ⟨_, rfl⟩
      · exact ⟨.txActive, (setState_self _ h2.symm).symm⟩
    obtain ⟨q, hq⟩ := h3
    by_cases h : 0 < s.tx.level.val
    · exact ⟨q, s.sr, .inr ⟨rfl, h, hq⟩⟩
    · exact ⟨q, s.sr, .inl ⟨by rw [hsr]; simpa [shiftOut_empty (s := s) (by omega)] using hq, fun _ _ => rfl⟩⟩
  | rxActive =>
    simp only [stepRx]
    have hb : ∀ b i, 1 ≤ i → (withRxne b s.sr).getLsbD i = s.sr.getLsbD i := fun b i h => by
      rw [withRxne, getLsbD_setBit _ _ _ (by decide), if_neg (by omega)]
    split
    · exact ⟨s.state, withRxne true s.sr, .inl ⟨(setState_self _ rfl).symm, hb true⟩⟩
    · exact ⟨.idle, withRxne false s.sr, .inl ⟨rfl, hb false⟩⟩
  | txrxActive => exact ⟨s.state, s.sr, .inl ⟨by rw [hsr, setState_self s rfl]; rfl, fun _ _ => rfl⟩⟩
  | error =>
    simp only [stepError]; split
    · exact ⟨.recovery, s.sr, .inl ⟨by rw [hsr], fun _ _ => rfl⟩⟩
    · exact ⟨s.state, s.sr, .inl ⟨by rw [hsr, setState_self s rfl], fun _ _ => rfl⟩⟩
  | recovery =>
    simp only [stepRecovery]; split
    · exact ⟨.idle, s.sr, .inl ⟨by rw [hsr], fun _ _ => rfl⟩⟩
    · exact ⟨s.state, s.sr, .inl ⟨by rw [hsr, setState_self s rfl], fun _ _ => rfl⟩⟩

/-! The host's requests. -/

theorem takeRequest_nil {s : State} (h : s.requests = []) : takeRequest s = none := by simp [takeRequest, h]

theorem takeRequest_cons {s : State} {r : Request} {rest : List Request} (h : s.requests = r :: rest) :
    takeRequest s = some (r, { s with requests := rest }) := by simp [takeRequest, h]

@[simp] theorem takeRequest_placeRequest (r : Request) (s : State) : takeRequest (placeRequest r s) = some (r, s) := rfl

end Sys2Proof.Machine
end

