-- ==== Sys2Proof/Laws/Issue.lean ====
section
/-! SUPPORT. Issuing an operation is executing it. -/

namespace Sys2Proof.Machine

/-- Every operation answers a next state, and that state is `issue`. -/
theorem exec_eq_issue (i : Instr) (s : State) : exec i s = .next (issue i s) := by
  cases i <;> rfl

/-- What an operation answers, if it is a next state, is `issue`. -/
theorem eq_issue_of_exec {i : Instr} {s t : State} (h : exec i s = .next t) : t = issue i s := by
  rw [exec_eq_issue] at h
  exact (Host.Outcome.next.inj h).symm

theorem issue_step (s : State) : issue .step s = answer none (clockStep s) := rfl

/-- A STEP is a tracked change of state between two updates: before it the cycle count and the arm's moved byte, after
it SR. -/
theorem issue_step_cases (s : State) :
    ∃ q u v, issue .step s = answer none (setSr v (setState q u)) ∧
      u.state = s.state ∧ u.matrix = s.matrix ∧ u.visits = s.visits ∧ u.wcov = s.wcov ∧ u.rcov = s.rcov ∧
      (u.trace = s.trace ∨
        (spe s.cr1 = true ∧ s.state = .txActive ∧ 0 < s.tx.level.val ∧ u.trace = s.trace ++ [.lineOut s.tx.front])) := by
  by_cases h : spe s.cr1 = true
  · obtain ⟨q, v, ⟨ha, _⟩ | ⟨h1, h0, ha⟩⟩ := stateArm_cases (tickCycle s)
    · refine ⟨q, setSr v (tickCycle s), withTxe (txeOf (stateArm (tickCycle s)).tx) (stateArm (tickCycle s)).sr,
        ?_, rfl, rfl, rfl, rfl, rfl, .inl rfl⟩
      rw [← ha, issue_step, clockStep_enabled h]; rfl
    · refine ⟨q, shiftOut (tickCycle s), withTxe (txeOf (stateArm (tickCycle s)).tx) (stateArm (tickCycle s)).sr,
        ?_, ?_⟩
      · rw [← ha, issue_step, clockStep_enabled h]; rfl
      · rw [shiftOut_byte h0]
        exact ⟨rfl, rfl, rfl, rfl, rfl, .inr ⟨h, h1, h0, rfl⟩⟩
  · refine ⟨.idle, tickCycle s, (setState .idle (tickCycle s)).sr, ?_, rfl, rfl, rfl, rfl, rfl, .inl rfl⟩
    rw [issue_step, clockStep_disabled (by simpa using h)]
    rfl

/-- Repeated STEPs, issued one by one. -/
theorem issueAll_replicate_step (n : Nat) (s : State) : issueAll (List.replicate n .step) s = steps n s := by
  induction n generalizing s with
  | zero => rfl
  | succ n ih => exact ih _

/-- The last of `n + 1` STEPs. -/
theorem steps_succ (n : Nat) (s : State) : steps (n + 1) s = issue .step (steps n s) := by
  induction n generalizing s with
  | zero => rfl
  | succ n ih => exact ih _

/-- Disabled STEPs leave CR1 and SR alone. -/
theorem steps_disabled (n : Nat) {s : State} (h : spe s.cr1 = false) :
    (steps n s).cr1 = s.cr1 ∧ (steps n s).sr = s.sr := by
  induction n with
  | zero => exact ⟨rfl, rfl⟩
  | succ n ih =>
    rw [steps_succ, issue_step, clockStep_disabled (by rw [ih.1]; exact h)]
    simpa using ih

/-- Executing operations in order is issuing them. -/
theorem execAll_eq_issueAll (is : List Instr) (s : State) : execAll is s = .next (issueAll is s) := by
  induction is generalizing s with
  | nil => rfl
  | cons i is ih => simp only [execAll, exec_eq_issue, ih]; rfl

theorem issue_rdSr (s : State) : issue .rdSr s = finishRead .sr s.sr s := rfl

/-! The accesses to a cell, in one equation each. -/

theorem issue_wrCr1_eq (v : Word) (s : State) : issue (.wrCr1 v) s =
    { s with cr1 := v, wcov := { s.wcov with cr1 := s.wcov.cr1 ||| v }, result := none } := rfl

theorem issue_wrCr2_eq (v : Word) (s : State) : issue (.wrCr2 v) s =
    { s with cr2 := v, wcov := { s.wcov with cr2 := s.wcov.cr2 ||| v }, result := none } := rfl

theorem issue_wrSr_eq (v : Word) (s : State) : issue (.wrSr v) s =
    { s with sr := v, wcov := { s.wcov with sr := s.wcov.sr ||| v }, result := none } := rfl

theorem issue_rdCr1_eq (s : State) : issue .rdCr1 s =
    { s with rcov := { s.rcov with cr1 := s.rcov.cr1 ||| s.cr1 }, result := some s.cr1 } := rfl

theorem issue_rdCr2_eq (s : State) : issue .rdCr2 s =
    { s with rcov := { s.rcov with cr2 := s.rcov.cr2 ||| s.cr2 }, result := some s.cr2 } := rfl

theorem issue_rdSr_eq (s : State) : issue .rdSr s =
    { s with rcov := { s.rcov with sr := s.rcov.sr ||| s.sr }, result := some s.sr } := rfl

/-! The host's shorthand for accesses. -/

@[simp] theorem busRead_sr (s : State) : busRead 0x08#32 s = issue .rdSr s := rfl

@[simp] theorem busRead_dr (s : State) : busRead 0x0C#32 s = issue .rdDr s := rfl

@[simp] theorem busWrite_dr (v : Word) (s : State) : busWrite 0x0C#32 v s = issue (.wrDr v) s := rfl

@[simp] theorem returned_issue_rdSr (s : State) : returned (issue .rdSr s) = s.sr := rfl

end Sys2Proof.Machine
end

