-- ==== Sys2Proof/Laws/Driver.lean ====
section
/-! SUPPORT. What a wait (45_host_driver.md R196) and the moving of a byte can do; uses of the block; accepted
transfers. -/

namespace Sys2Proof.Driver

open Sys2Proof.Machine

/-- The predicate holds at the first poll. -/
theorem waitSr_ok {pred : Word → Bool} {s : State} (h : pred s.sr = true) (b : Nat) :
    waitSr pred b s = (.ok, issue .rdSr s) := by
  cases b <;> simp [waitSr, h]

/-- The predicate fails and the budget is spent. -/
theorem waitSr_timeout {pred : Word → Bool} {s : State} (h : pred s.sr = false) :
    waitSr pred 0 s = (.timeout, issue .rdSr s) := by
  simp [waitSr, h]

/-- The predicate fails and a step is left. -/
theorem waitSr_step {pred : Word → Bool} {s : State} (h : pred s.sr = false) (b : Nat) :
    waitSr pred (b + 1) s = waitSr pred b (issue .step (issue .rdSr s)) := by
  simp [waitSr, h]

/-- What moving a byte can answer: OK with the byte read, or a failed wait's result with none. -/
theorem moveByte_cases (budget : Nat) (b : Byte) (s : State) :
    (∃ v t, moveByte budget b s = (.ok, some v, t)) ∨ ∃ r t, r ≠ .ok ∧ moveByte budget b s = (r, none, t) := by
  unfold moveByte
  rcases waitSr txe budget s with ⟨r, s1⟩
  by_cases h1 : r = .ok
  · subst h1; simp only
    rcases waitSr rxne budget (busWrite 0x0C#32 (zext b) s1) with ⟨r', s2⟩
    cases r' <;> simp
  · cases r <;> simp_all

/-- What a call does to the block it owns. -/
theorem onBlock_some {α : Type} {d : DriverState} {s : State} (h : d.hw = some s) (use : State → α × State) :
    onBlock use d = .ok ((use s).1, { d with hw := some (use s).2 }) := by
  unfold onBlock; rw [h]

/-- Without a block there is nothing to use. -/
theorem onBlock_none {α : Type} {d : DriverState} (h : d.hw = none) (use : State → α × State) :
    onBlock use d = .error .noBlock := by
  unfold onBlock; rw [h]

@[simp] theorem peekCycle_fst (s : State) : (peekCycle s).1 = s.cycle := rfl

@[simp] theorem peekCycle_snd (s : State) : (peekCycle s).2 = issue (.peek .cycle) s := rfl

/-- A transfer that passes its checks runs its body (R197, R198). -/
theorem transfer_accepted {d : DriverState} (hi : d.initialized = true) (hb : d.busy = false)
    (run : Hook → DriverState → Except Stuck DriverState) (b : Byte) (rest : List Byte) (rx : Bool) (ms : Word) :
    transfer run (some (b :: rest)) rx ms d = transferBody run (b :: rest) rx ms d := by
  simp [transfer, rejection, hi, hb]

/-- The body of a transfer without hooks, in one equation. -/
theorem transferBody_no_hooks {d : DriverState} {s : State} (h : d.hw = some s) (hpre : d.preHook = none)
    (hpost : d.postHook = none) (run : Hook → DriverState → Except Stuck DriverState) (bytes : List Byte) (rx : Bool)
    (ms : Word) :
    transferBody run bytes rx ms d =
      let m := moveBytes (ms.toNat * 1000) bytes (issue (.peek .cycle) s)
      .ok (.transferred m.1.1 (if rx then m.1.2 else []),
        { d with
          busy := false
          st := updateStats d.st bytes.length (m.2.cycle - s.cycle) m.1.1
          hw := some (issue (.peek .cycle) m.2) }) := by
  unfold transferBody
  rw [onBlock_some (d := { d with busy := true }) h]
  simp [runOptional, hpre, hpost, onBlock, bind, Except.bind, pure, Except.pure]

end Sys2Proof.Driver
end

