-- ==== Sys2Proof/Laws/PerInstr.lean ====
section
/-! SUPPORT. One lemma per constructor of `Instr` and per family of statements about instructions as syntax. The family
`EncodedKind`: the encoder puts each instruction in the request kind that 30_encoding.md R82 gives it. -/

namespace Sys2Proof.Laws.EncodedKind

/-- The request kind of each operation (R82). -/
def kindOf : Instr → BitVec 3
  | .rdCr1 | .rdCr2 | .rdSr | .rdDr | .rdUnmapped _ => 0b000
  | .wrCr1 _ | .wrCr2 _ | .wrSr _ | .wrDr _ | .wrUnmapped _ _ => 0b001
  | .step => 0b010
  | .reset => 0b011
  | .pokeSr _ => 0b100
  | .forceState _ => 0b101
  | .peek _ => 0b110

/-- The encoded word carries the kind of R82, and only WRITE and POKE_SR carry a data operand (R81). -/
def Statement (i : Instr) : Prop :=
  kindField (encode i).word = kindOf i ∧ (hasData (encode i).word = false → (encode i).data = 0)

theorem rdCr1 : Statement .rdCr1 := by simp [Statement, encode, kindOf]
theorem rdCr2 : Statement .rdCr2 := by simp [Statement, encode, kindOf]
theorem rdSr : Statement .rdSr := by simp [Statement, encode, kindOf]
theorem rdDr : Statement .rdDr := by simp [Statement, encode, kindOf]
theorem rdUnmapped (off : Word) : Statement (.rdUnmapped off) := by simp [Statement, encode, kindOf]
theorem wrCr1 (v : Word) : Statement (.wrCr1 v) := by simp [Statement, encode, kindOf, hasData]
theorem wrCr2 (v : Word) : Statement (.wrCr2 v) := by simp [Statement, encode, kindOf, hasData]
theorem wrSr (v : Word) : Statement (.wrSr v) := by simp [Statement, encode, kindOf, hasData]
theorem wrDr (v : Word) : Statement (.wrDr v) := by simp [Statement, encode, kindOf, hasData]
theorem wrUnmapped (off v : Word) : Statement (.wrUnmapped off v) := by simp [Statement, encode, kindOf, hasData]
theorem step : Statement .step := by simp [Statement, encode, kindOf]
theorem reset : Statement .reset := by simp [Statement, encode, kindOf]
theorem pokeSr (v : Word) : Statement (.pokeSr v) := by simp [Statement, encode, kindOf, hasData]
theorem forceState (s : FsmState) : Statement (.forceState s) := by simp [Statement, encode, kindOf]
theorem peek (item : PeekItem) : Statement (.peek item) := by simp [Statement, encode, kindOf]

end Sys2Proof.Laws.EncodedKind
end

