-- ==== Sys2Proof/Tests/Slice0.lean ====
section
/-! SUPPORT. The model's own tests. Expected values come from 95_test_vectors.md (each test names its vectors), from the
tables of 30_encoding.md, or from a rule worked by hand. The last section has a witness for every obligation that has
hypotheses. -/

namespace Sys2Proof.Tests

open Sys2Proof Sys2Proof.Machine

/-! ## WellFormed: each ill-formed term is refused -/

theorem test_unmapped_read_at_a_mapped_offset_is_ill_formed :
    (Instr.rdUnmapped 0x00).wellFormed = false ∧ (Instr.rdUnmapped 0x04).wellFormed = false ∧
    (Instr.rdUnmapped 0x08).wellFormed = false ∧ (Instr.rdUnmapped 0x0C).wellFormed = false := by decide

theorem test_unmapped_write_at_a_mapped_offset_is_ill_formed :
    (Instr.wrUnmapped 0x00 1).wellFormed = false ∧ (Instr.wrUnmapped 0x04 1).wellFormed = false ∧
    (Instr.wrUnmapped 0x08 1).wellFormed = false ∧ (Instr.wrUnmapped 0x0C 1).wellFormed = false := by decide

theorem test_unmapped_terms_are_well_formed :
    (Instr.rdUnmapped 0x10).wellFormed = true ∧ (Instr.wrUnmapped 0x40C 0).wellFormed = true := by decide

/-! ## Decode (vectors EN1 to EN28, R92): every constructor, from a word written out -/

theorem test_decode_read :
    decode ⟨0x000000000, 0⟩ = .ok .rdCr1 ∧ decode ⟨0x000000004, 0⟩ = .ok .rdCr2 ∧
    decode ⟨0x000000008, 0⟩ = .ok .rdSr ∧ decode ⟨0x00000000C, 0⟩ = .ok .rdDr ∧
    decode ⟨0x000000010, 0⟩ = .ok (.rdUnmapped 0x10) ∧ decode ⟨0x000000001, 0⟩ = .ok (.rdUnmapped 0x01) ∧
    decode ⟨0x0FFFFFFFF, 0⟩ = .ok (.rdUnmapped 0xFFFFFFFF) := by decide

theorem test_decode_write :
    decode ⟨0x100000000, 0x44⟩ = .ok (.wrCr1 0x44) ∧ decode ⟨0x100000004, 0x04⟩ = .ok (.wrCr2 0x04) ∧
    decode ⟨0x100000008, 0x70⟩ = .ok (.wrSr 0x70) ∧ decode ⟨0x10000000C, 0xA5⟩ = .ok (.wrDr 0xA5) ∧
    decode ⟨0x10000040C, 0xA5⟩ = .ok (.wrUnmapped 0x40C 0xA5) ∧ decode ⟨0x100000010, 0x1⟩ = .ok (.wrUnmapped 0x10 0x1)
    := by decide

theorem test_decode_control :
    decode ⟨0x200000000, 0⟩ = .ok .step ∧ decode ⟨0x300000000, 0⟩ = .ok .reset ∧
    decode ⟨0x400000000, 0x70⟩ = .ok (.pokeSr 0x70) ∧ decode ⟨0x500000000, 0⟩ = .ok (.forceState .idle) ∧
    decode ⟨0x500000003, 0⟩ = .ok (.forceState .txrxActive) ∧ decode ⟨0x500000005, 0⟩ = .ok (.forceState .recovery)
    := by decide

theorem test_decode_peek_single :
    decode ⟨0x600000000, 0⟩ = .ok (.peek .cycle) ∧ decode ⟨0x600000001, 0⟩ = .ok (.peek .state) ∧
    decode ⟨0x600000002, 0⟩ = .ok (.peek .txLevel) ∧ decode ⟨0x600000003, 0⟩ = .ok (.peek .rxLevel) ∧
    decode ⟨0x600000004, 0⟩ = .ok (.peek .txCount) ∧ decode ⟨0x600000005, 0⟩ = .ok (.peek .rxCount) ∧
    decode ⟨0x600000006, 0⟩ = .ok (.peek .txHead) ∧ decode ⟨0x600000007, 0⟩ = .ok (.peek .rxHead) := by decide

theorem test_decode_peek_ranges :
    decode ⟨0x600000008, 0⟩ = .ok (.peek (.matrix .idle .idle)) ∧
    decode ⟨0x600000009, 0⟩ = .ok (.peek (.matrix .idle .txActive)) ∧
    decode ⟨0x60000000B, 0⟩ = .ok (.peek (.matrix .idle .txrxActive)) ∧
    decode ⟨0x60000000E, 0⟩ = .ok (.peek (.matrix .txActive .idle)) ∧
    decode ⟨0x60000002B, 0⟩ = .ok (.peek (.matrix .recovery .recovery)) ∧
    decode ⟨0x60000002C, 0⟩ = .ok (.peek (.visits .idle)) ∧ decode ⟨0x600000031, 0⟩ = .ok (.peek (.visits .recovery)) ∧
    decode ⟨0x600000032, 0⟩ = .ok (.peek (.wcov .cr1)) ∧ decode ⟨0x600000035, 0⟩ = .ok (.peek (.wcov .dr)) ∧
    decode ⟨0x600000036, 0⟩ = .ok (.peek (.rcov .cr1)) ∧ decode ⟨0x600000039, 0⟩ = .ok (.peek (.rcov .dr)) ∧
    decode ⟨0x60000003A, 0⟩ = .ok (.peek (.txBuf 0)) ∧ decode ⟨0x600000049, 0⟩ = .ok (.peek (.txBuf 15)) ∧
    decode ⟨0x60000004A, 0⟩ = .ok (.peek (.rxBuf 0)) ∧ decode ⟨0x600000059, 0⟩ = .ok (.peek (.rxBuf 15)) ∧
    decode ⟨0x60000005A, 0⟩ = .ok (.peek .visited) := by decide

theorem test_reserved_words_are_refused_by_name :
    decode ⟨0x200000001, 0⟩ = .error .stepWithSelector ∧ decode ⟨0x300000004, 0⟩ = .error .resetWithSelector ∧
    decode ⟨0x400000008, 0x70⟩ = .error .pokeSrWithSelector ∧ decode ⟨0x500000006, 0⟩ = .error .reservedStateCode ∧
    decode ⟨0x60000005B, 0⟩ = .error .reservedPeekSelector ∧ decode ⟨0x700000000, 0⟩ = .error .reservedKind ∧
    decode ⟨0x7FFFFFFFF, 0⟩ = .error .reservedKind := by decide

theorem test_table_words :
    decodeTableWord 40 0x200000000 = some .step ∧ decodeTableWord 35 0x00000000C = some .rdDr ∧
    decodeTableWord 72 (0x44 * 2 ^ 40 + 0x100000000) = some (.wrCr1 0x44) ∧
    decodeTableWord 40 (0x44 * 2 ^ 40 + 0x100000000) = some (.wrCr1 0) ∧
    decodeTableWord 40 0x700000000 = none ∧ decodeTableWord 40 (2 ^ 35 + 0x200000000) = none := by decide

/-- The very next step runs the placed word, here from reset. -/
theorem test_with_fetch_word_runs_next :
    step (State.reset.withFetchWord 40 0x200000000) = .next (issue .step State.reset) := rfl

/-! ## Text (R90, R91) -/

theorem test_text_of_operations :
    Asm.parseLine "rd 0x0D ; misaligned".toList = some (.op (.rdUnmapped 0x0D)) ∧
    Asm.parseLine "wr SR, 112".toList = some (.op (.wrSr 0x70)) ∧
    Asm.parseLine "force_state 3".toList = some (.op (.forceState .txrxActive)) ∧
    Asm.parseLine "force_state 6".toList = none ∧
    Asm.parseLine "peek matrix[IDLE][TXRX_ACTIVE]".toList = some (.op (.peek (.matrix .idle .txrxActive))) ∧
    Asm.parseLine "peek rxbuf[15]".toList = some (.op (.peek (.rxBuf 15))) := by decide

theorem test_text_of_pseudo_operations :
    Asm.parseLine "step 16".toList = some (.stepN 16) ∧
    Asm.parseLine "wr DR, [0x00, 0x01, 0x10]".toList = some (.wrDrList [0, 1, 0x10]) ∧
    Asm.parseLine "clrbits SR, 0x2".toList = some (.clrbits .sr 0x2) ∧
    Asm.parseLine "setbits DR, 0x2".toList = none ∧ Asm.parseLine "; nothing".toList = some .blank := by decide

/-! ## States for the vectors -/

/-- A FIFO with head 0 and the listed entries, oldest first. -/
def fifoOf (bytes : List Byte) : Fifo := bytes.foldl Fifo.push Fifo.empty

/-- `[00..0F]`. -/
def fullFifo : Fifo := fifoOf [0, 1, 2, 3, 4, 5, 6, 7, 8, 9, 10, 11, 12, 13, 14, 15]

/-- Reset with SPE = 1, the start of the STEP vectors. -/
def enabled : State := { State.reset with cr1 := 0x40 }

theorem test_full_fifo_holds_sixteen : fullFifo.level.val = 16 ∧ (fifoOf [0xA5, 0x5A]).contents = [0xA5, 0x5A] := by
  decide

/-! ## Register writes (WR1 to WR6) -/

theorem test_WR1_wrCr1 :
    let t := issue (.wrCr1 0x844) State.reset
    t.cr1 = 0x844 ∧ t.wcov.cr1 = 0x844 ∧ t.state = .idle ∧ t.cycle = 0 := by decide

theorem test_R100_wrCr2 :
    let t := issue (.wrCr2 0x4) State.reset
    t.cr2 = 0x4 ∧ t.wcov.cr2 = 0x4 ∧ t.cr1 = 0 := by decide

theorem test_WR2_wrSr :
    let t := issue (.wrSr 0x70) State.reset
    t.sr = 0x70 ∧ t.wcov.sr = 0x70 ∧ t.state = .idle := by decide

theorem test_WR3_wrDr_low_byte :
    let t := issue (.wrDr 0x12345678) State.reset
    t.tx.contents = [0x78] ∧ t.txcount = 1 ∧ t.wcov.dr = 0x12345678 ∧ t.sr = 0x2 := by decide

theorem test_WR4_wrDr_full :
    let t := issue (.wrDr 0x1FF) { State.reset with tx := fullFifo }
    t.tx = fullFifo ∧ t.txcount = 0 ∧ t.wcov.dr = 0x1FF := by decide

theorem test_WR5_wrUnmapped : issue (.wrUnmapped 0x40C 0xAB) State.reset = State.reset := by decide

/-! ## Register reads (RD1 to RD8) -/

theorem test_RD6_rdCr1 :
    let t := issue .rdCr1 { State.reset with cr1 := 0x844 }
    t.result = some 0x844 ∧ t.rcov.cr1 = 0x844 := by decide

theorem test_R108_rdCr2 :
    let t := issue .rdCr2 State.reset
    t.result = some 0 ∧ t.rcov.cr2 = 0 := by decide

theorem test_RD8_rdSr :
    let t := issue .rdSr State.reset
    t.result = some 0x2 ∧ t.rcov.sr = 0x2 ∧ t.sr = 0x2 := by decide

theorem test_RD2_rdDr_bytes_remain :
    let t := issue .rdDr { State.reset with sr := 0x3, rx := fifoOf [0x5A, 0x3C] }
    t.result = some 0x5A ∧ t.rx.contents = [0x3C] ∧ t.rx.head = 1 ∧ t.rxcount = 1 ∧ t.sr = 0x3 ∧ t.rcov.dr = 0x5A := by
  decide

theorem test_RD3_rdDr_empties :
    let t := issue .rdDr { State.reset with sr := 0x3, rx := fifoOf [0x3C] }
    t.result = some 0x3C ∧ t.rx.contents = [] ∧ t.sr = 0x2 := by decide

theorem test_RD4_rdDr_empty_keeps_rxne :
    let t := issue .rdDr { State.reset with sr := 0x1 }
    t.result = some 0 ∧ t.sr = 0x1 ∧ t.rxcount = 0 := by decide

theorem test_RD7_rdUnmapped :
    issue (.rdUnmapped 0x0D) State.reset = { State.reset with result := some 0 } := by decide

/-! ## STEP (ST1 to ST23) -/

theorem test_ST2_disabled_from_error :
    let t := issue .step { State.reset with state := .error, sr := 0x70 }
    t.state = .idle ∧ t.sr = 0x70 ∧ t.cycle = 1 ∧ matrixEntry t .error .idle = 1 ∧ t.visits.idle = 1 ∧
      t.trace = [.stateChange .error .idle] := by decide

theorem test_ST23_disabled_freezes_txe :
    let t := issue .step { State.reset with sr := 0x0, tx := fifoOf [0x01] }
    t.state = .idle ∧ t.sr = 0x0 ∧ t.tx.contents = [0x01] ∧ t.trace = [] := by decide

theorem test_ST3_ST4_idle :
    (issue .step enabled).state = .txActive ∧ (issue .step enabled).trace = [.stateChange .idle .txActive] ∧
    (issue .step { enabled with sr := 0x0 }).state = .idle ∧ (issue .step { enabled with sr := 0x0 }).sr = 0x2 := by decide

theorem test_ST12_full_fifo_clears_txe :
    let t := issue .step { enabled with tx := fullFifo }
    t.state = .txActive ∧ t.sr = 0x0 ∧ t.tx = fullFifo := by decide

theorem test_ST6_tx_stays :
    let t := issue .step { enabled with state := .txActive, tx := fifoOf [0xA5] }
    t.state = .txActive ∧ t.tx.contents = [] ∧ t.rx.contents = [0x5A] ∧ t.txcount = 1 ∧ t.sr = 0x2 ∧
      t.trace = [.lineOut 0xA5] := by decide

theorem test_ST7_tx_to_rx :
    let t := issue .step { enabled with state := .txActive, sr := 0x0, tx := fifoOf [0xA5] }
    t.state = .rxActive ∧ t.rx.contents = [0x5A] ∧ t.sr = 0x2 ∧
      t.trace = [.lineOut 0xA5, .stateChange .txActive .rxActive] := by decide

theorem test_ST8_tx_to_idle :
    let t := issue .step { enabled with state := .txActive, sr := 0x0 }
    t.state = .idle ∧ t.txcount = 0 ∧ t.sr = 0x2 := by decide

theorem test_ST10_receive_overflow_is_silent :
    let t := issue .step { enabled with state := .txActive, tx := fifoOf [0x00], rx := fullFifo }
    t.state = .txActive ∧ t.rx = fullFifo ∧ t.txcount = 1 ∧ t.sr = 0x2 := by decide

theorem test_ST13_rx_sets_rxne :
    let t := issue .step { enabled with state := .rxActive, sr := 0x0, rx := fifoOf [0x09] }
    t.state = .rxActive ∧ t.sr = 0x3 ∧ t.rx.contents = [0x09] := by decide

theorem test_ST14_rx_drained :
    let t := issue .step { enabled with state := .rxActive, sr := 0x3 }
    t.state = .idle ∧ t.sr = 0x2 := by decide

theorem test_ST15_txrx_does_nothing :
    let t := issue .step { enabled with state := .txrxActive, sr := 0x0, tx := fifoOf [0x01] }
    t.state = .txrxActive ∧ t.tx.contents = [0x01] ∧ t.sr = 0x2 := by decide

theorem test_ST16_ST17_error :
    (issue .step { enabled with state := .error, sr := 0x12 }).state = .error ∧
    (issue .step { enabled with state := .error, sr := 0x80 }).state = .recovery ∧
    (issue .step { enabled with state := .error, sr := 0x80 }).sr = 0x82 := by decide

theorem test_ST18_to_ST22_recovery :
    (issue .step { enabled with state := .recovery, cycle := 8 }).state = .recovery ∧
    (issue .step { enabled with state := .recovery, cycle := 9 }).state = .idle ∧
    (issue .step { enabled with state := .recovery, cycle := 0xFFFFFFFF }).state = .idle ∧
    (issue .step { enabled with state := .recovery, cycle := 0xFFFFFFFF }).cycle = 0 ∧
    (issue .step { enabled with state := .recovery, cycle := 0xFFFFFFF9 }).state = .idle ∧
    (issue .step { enabled with state := .recovery, cycle := 0xFFFFFFFB }).state = .recovery := by decide

/-! ## Control (CT1 to CT5) -/

theorem test_CT1_reset :
    issue .reset { enabled with state := .error, sr := 0x70, tx := fifoOf [1], rx := fifoOf [2], cycle := 77, txcount := 5 }
      = State.reset := by decide

theorem test_CT2_pokeSr :
    let t := issue (.pokeSr 0x70) State.reset
    t.sr = 0x70 ∧ t.wcov.sr = 0 := by decide

theorem test_CT3_forceState :
    let t := issue (.forceState .error) State.reset
    t.state = .error ∧ matrixEntry t .idle .error = 1 ∧ t.visits.error = 1 ∧ t.trace = [.stateChange .idle .error] := by
  decide

theorem test_CT4_forceState_self : issue (.forceState .idle) State.reset = State.reset := by decide

theorem test_CT5_peek :
    let s := issue .step enabled
    (issue (.peek .cycle) s).result = some 1 ∧ (issue (.peek .state) s).result = some 1 ∧
      (issue (.peek .visited) s).result = some 1 := by decide

/-! ## Driver (HV1 to HV3) -/

/-- The example configuration of decision D37 (`BR_LE_1M` stays the OPEN parameter). -/
def exampleConfig : Config.DriverConfig := ⟨500000, .bits8, 0, 0, .msbFirst, true, true⟩

/-- A driver before initialize. -/
def newDriver : Driver.DriverState := ⟨false, false, exampleConfig, ⟨0, 0, 0, 0⟩, none, none, none⟩

/-- A driver after initialize. -/
def readyDriver : Driver.DriverState := (Driver.initDriver true (some exampleConfig) newDriver).2

/-- What a call answers, and a view of the driver after it. -/
def outcome {α : Type} (c : Driver.Call) (d : Driver.DriverState) (view : Driver.DriverState → α) :
    Except Driver.Stuck (Driver.Reply × α) :=
  (Driver.call 0 c d).map fun p => (p.1, view p.2)

theorem test_HV1_HV2_rejected :
    outcome (.transfer (some [1]) false 1) newDriver (·.st) = .ok (.transferred .invalidArgument [], ⟨0, 0, 0, 0⟩) ∧
    outcome (.transfer (some []) false 100) readyDriver (·.st) = .ok (.transferred .invalidArgument [], ⟨0, 0, 0, 0⟩) ∧
    outcome (.transfer none false 100) readyDriver (·.busy) = .ok (.transferred .invalidArgument [], false) := by decide

theorem test_HV3_zero_budget :
    outcome (.transfer (some [0x33]) false 0) readyDriver (·.st) = .ok (.transferred .timeout [], ⟨1, 1, 0, 1⟩) ∧
    outcome (.transfer (some [0x33]) false 0) readyDriver (·.hw.map fun s => (s.tx.contents, s.txcount.toNat, s.cycle.toNat))
      = .ok (.transferred .timeout [], some ([0x33], 1, 0)) := by decide

/-- A pre hook that reads SR, turns SPE off if TXE is set, and calls transfer, which answers BUSY (R203). -/
def choosingHook : Driver.Hook :=
  .op .rdSr fun v => if txe (v.getD 0) then .op (.wrCr1 0) fun _ => callingHook else .done
where
  /-- It marks the reply by a POKE_SR of 0x72 if that is BUSY. -/
  callingHook : Driver.Hook :=
    .call (.transfer (some [1]) true 0) fun r =>
      if r = .transferred .busy [] then .op (.pokeSr 0x72) fun _ => .done else .done

theorem test_R203_a_hook_chooses_and_receives_busy :
    outcome (.transfer (some [0x33]) false 0) { readyDriver with preHook := some choosingHook }
        (fun d => (d.busy, d.st.transfers, d.hw.map fun s => (s.cr1, s.sr)))
      = .ok (.transferred .timeout [], false, 1, some (0, 0x72)) := by decide

/-- A post hook is told the result (R202). -/
theorem test_R202_post_hook_receives_the_result :
    outcome (.transfer (some [0x33]) false 0)
        { readyDriver with postHook := some fun r => if r = .timeout then .op (.pokeSr 0x70) fun _ => .done else .done }
        (·.hw.map (·.sr))
      = .ok (.transferred .timeout [], some 0x70) := by decide

/-! ## Witnesses: inputs that meet the hypotheses of each obligation -/

theorem test_witness_DecodeOfEncode : ∀ i ∈ [Instr.rdUnmapped 0x10, .peek (.matrix .recovery .error), .wrDr 0xA5],
    i.wellFormed = true := by decide

theorem test_witness_DecodedInstructionsEncodeBack :
    decode ⟨0x10000000C, 0xA5⟩ = .ok (.wrDr 0xA5) ∧ hasData 0x10000000C = true := by decide

theorem test_witness_ReservedWords :
    (ReservedWord 0x700000000#35 ∧ ReservedWord 0x500000006#35 ∧ ReservedWord 0x60000005B#35 ∧
      ReservedWord 0x200000001#35) ∧
    ¬ ReservedWord 0x500000005#35 ∧ ¬ ReservedWord 0x60000005A#35 ∧ ¬ ReservedWord 0x0FFFFFFFF#35 := by
  simp [ReservedWord]

/-- A reserved request in front stops the machine; an operation in front does not. -/
theorem test_witness_OnlyReserved :
    step { State.reset with requests := [⟨0x700000000#35, 0⟩, encode .step] } = .refused (.reservedRequest .reservedKind) ∧
    step { State.reset with requests := [⟨0x60000005B#35, 0⟩] } = .refused (.reservedRequest .reservedPeekSelector) ∧
    ReservedWord 0x700000000#35 ∧ ReservedWord 0x60000005B#35 ∧ ¬ ReservedWord 0x200000000#35 ∧
    step { State.reset with requests := [encode .step] } = .next (issue .step State.reset) :=
  ⟨rfl, rfl, by simp [ReservedWord], by simp [ReservedWord], by simp [ReservedWord], rfl⟩

theorem test_witness_StepRunsTheDecodedRequest :
    ({ State.reset with requests := [encode .step] }).requests = encode .step :: [] ∧
    decode (encode .step) = .ok .step ∧ State.reset.requests = [] ∧ decodeTableWord 40 0x600000000 = some (.peek .cycle)
    := by decide

theorem test_witness_PendingRequests :
    (∀ i ∈ [Instr.wrCr1 0x40, .step], i.wellFormed = true) ∧
    ({ State.reset with requests := [encode (.wrCr1 0x40), encode .step, encode .rdSr] }).requests
      = [Instr.wrCr1 0x40, .step].map encode ++ [encode .rdSr] := by decide

theorem test_witness_ExampleReservedKind : (0x7FFFFFFFF#35).toNat ≥ 0x700000000 := by decide

theorem test_witness_DataWrite :
    State.reset.tx.contents.length < 16 ∧ ({ State.reset with tx := fullFifo }).tx.contents.length = 16 ∧
    (0 : Fin 16).val ≠ ((fifoOf [1]).head.val + (fifoOf [1]).level.val) % 16 := by decide

theorem test_witness_Unmapped : ∀ off ∈ [0x01#32, 0x03#32, 0x05#32, 0x0D#32, 0x10#32, 0x40C#32, 0xFFFFFFFF#32],
    off.toNat ≠ 0 ∧ off.toNat ≠ 4 ∧ off.toNat ≠ 8 ∧ off.toNat ≠ 12 := by simp

theorem test_witness_DataRead :
    State.reset.rx.contents = [] ∧ ({ State.reset with rx := fifoOf [0x3C] }).rx.contents = 0x3C :: [] ∧
    ({ State.reset with rx := fifoOf [0x5A, 0x3C] }).rx.contents = 0x5A :: [0x3C] := by decide

/-- The selector of each kind of item at both ends of its range, from the table of R85; the ranges meet nowhere. -/
theorem test_witness_Peek :
    (91#32).toNat ≥ 91 ∧ 8 + 6 * 0 + 0 = 8 ∧ 8 + 6 * 5 + 5 = 43 ∧ 44 + 0 = 44 ∧ 44 + 5 = 49 ∧
    58 + (0 : Fin 16).val = 58 ∧ 58 + (15 : Fin 16).val = 73 ∧ 74 + (0 : Fin 16).val = 74 ∧ 74 + (15 : Fin 16).val = 89 ∧
    (issue (.peek .state) { State.reset with state := .error }).result = some 4 := by decide

theorem test_witness_OnlyStepAdvancesTheCycle : Instr.reset ≠ .step ∧ Instr.rdSr ≠ .step ∧ Instr.rdSr ≠ .reset := by
  decide

theorem test_witness_DisabledStep :
    ({ State.reset with state := .recovery }).cr1.getLsbD 6 = false ∧ State.reset.state = .idle := by decide

theorem test_witness_TransmitStep :
    let s := { enabled with state := .txActive, tx := fifoOf [0xA5, 0x5A] }
    s.cr1.getLsbD 6 = true ∧ s.state = .txActive ∧ s.tx.contents = 0xA5 :: [0x5A] ∧ s.rx.contents.length < 16 ∧
      ({ s with rx := fullFifo }).rx.contents.length = 16 ∧
      (5 : Fin 16).val ≠ (s.rx.head.val + s.rx.level.val) % 16 := by decide

theorem test_witness_OtherSteps :
    State.reset.cr1.getLsbD 6 = false ∧ ({ enabled with state := .error }).state ≠ .txActive ∧
    ({ enabled with state := .txActive }).tx.contents = [] := by decide

theorem test_witness_EnabledStep :
    enabled.cr1.getLsbD 6 = true ∧ enabled.state ≠ .rxActive ∧
    (issue .step { enabled with tx := fullFifo }).tx.level.val = 16 := by decide

theorem test_witness_ReceiveStep :
    let s := { enabled with state := .rxActive }
    s.cr1.getLsbD 6 = true ∧ s.state = .rxActive ∧ s.rx.contents = [] ∧ ({ s with rx := fifoOf [9] }).rx.contents ≠ [] := by
  decide

theorem test_witness_ErrorAndRecovery :
    enabled.cr1.getLsbD 6 = true ∧ ({ enabled with state := .error }).state = .error ∧
    ((0x8F#32).getLsbD 4 = false ∧ (0x8F#32).getLsbD 5 = false ∧ (0x8F#32).getLsbD 6 = false) ∧
    (0x10#32).getLsbD 4 = true ∧ (0x20#32).getLsbD 5 = true ∧ (0x40#32).getLsbD 6 = true ∧
    (issue .step { enabled with state := .recovery, cycle := 9 }).cycle.toNat % 10 = 0 ∧
    (issue .step { enabled with state := .recovery, cycle := 8 }).cycle.toNat % 10 ≠ 0 := by decide

theorem test_witness_DataWriteInIdle :
    enabled.cr1.getLsbD 6 = true ∧ enabled.state = .idle ∧ enabled.tx.contents = [] := by decide

theorem test_witness_StateChanges : (Instr.step = .step ∨ ∃ q, Instr.step = .forceState q) ∧
    (Instr.forceState .error = .step ∨ ∃ q, Instr.forceState .error = .forceState q) :=
  ⟨.inl rfl, .inr ⟨_, rfl⟩⟩

/-- TXE changes in an enabled STEP; RXNE changes in RX_ACTIVE and in the read that drains the FIFO. -/
theorem test_witness_BlockWrites :
    (∃ t, exec .step { enabled with tx := fullFifo } = .next t ∧ t.sr.getLsbD 1 ≠ enabled.sr.getLsbD 1) ∧
    (∃ t, exec .step { enabled with state := .rxActive, rx := fifoOf [9] } = .next t ∧
      t.sr.getLsbD 0 ≠ enabled.sr.getLsbD 0) ∧
    (∃ t, exec .rdDr { enabled with sr := 0x3, rx := fifoOf [9] } = .next t ∧ t.sr.getLsbD 0 ≠ (0x3#32).getLsbD 0) ∧
    (∀ v, Instr.step ≠ .wrSr v) ∧ (∀ v, Instr.step ≠ .pokeSr v) ∧ Instr.step ≠ .reset :=
  ⟨⟨_, rfl, by decide⟩, ⟨_, rfl, by decide⟩, ⟨_, rfl, by decide⟩, by simp, by simp, by simp⟩

theorem test_witness_ErrorAndTxrx :
    (∃ t, exec (.forceState .error) enabled = .next t ∧ t.state ≠ enabled.state ∧ t.state = .error) ∧
    (∃ t, exec (.forceState .txrxActive) enabled = .next t ∧ t.state ≠ enabled.state ∧ t.state = .txrxActive) ∧
    ∃ t, exec .step { enabled with state := .error } = .next t ∧ t.state ≠ .error ∧ t.state = .recovery :=
  ⟨⟨_, rfl, by decide⟩, ⟨_, rfl, by decide⟩, ⟨_, rfl, by decide⟩⟩

theorem test_witness_EventsOfOneOperation : ∃ t, exec .step { enabled with state := .txActive, sr := 0, tx := fifoOf [7] } =
    .next t ∧ t.trace = [] ++ [.lineOut 7] ++ [.stateChange .txActive .rxActive] :=
  ⟨_, rfl, by decide⟩

theorem test_witness_TrackerInvariant : TrackerInv State.reset ∧ ∃ t,
    step { State.reset with requests := [encode (.forceState .error)] } = .next t ∧ t.visits.error = 1 :=
  ⟨⟨fun q => by cases q <;> rfl, fun q => by cases q <;> rfl⟩, _, rfl, by decide⟩

theorem test_witness_Coverage :
    (∃ t, exec (.wrCr2 0x5) State.reset = .next t ∧ Instr.wrCr2 0x5 ≠ .reset ∧ t.wcov.cr2 = 0x5) ∧
    ∃ t, exec .reset { State.reset with wcov := ⟨1, 2, 3, 4⟩ } = .next t ∧ t.wcov.dr = 0 :=
  ⟨⟨_, rfl, by decide⟩, _, rfl, by decide⟩

theorem test_witness_OnlySpe :
    (0xFFFFFFFF#32).getLsbD 6 = enabled.cr1.getLsbD 6 ∧ Instr.step ≠ .rdCr1 ∧ Instr.step ≠ .rdCr2 ∧
    (∀ v, Instr.step ≠ .wrCr1 v) ∧ (∀ v, Instr.step ≠ .wrCr2 v) ∧ Instr.step ≠ .reset := by simp [enabled]

theorem test_witness_TransmitStateNeverLeaves :
    let s := { enabled with state := .txActive, tx := fifoOf [1, 2] }
    (∀ i ∈ [Instr.wrDr 3, .step, .rdSr, .rdDr], i = .step ∨ i = .rdDr ∨ i = .rdSr ∨ ∃ v, i = .wrDr v) ∧
    s.cr1.getLsbD 6 = true ∧ s.state = .txActive ∧ s.sr.getLsbD 1 = true ∧ s.sr.getLsbD 0 = false ∧
      ({ s with sr := 0x3 }).sr.getLsbD 1 = true ∧ ({ s with sr := 0x3 }).sr.getLsbD 0 = true :=
  ⟨by simp, by decide⟩

/-- Entries at cycles 4, 10 and 4294967290 (E11). -/
theorem test_witness_RecoveryLasts :
    enabled.cr1.getLsbD 6 = true ∧
    (issue .step { enabled with state := .error, cycle := 3 }).state = .recovery ∧
    (issue .step { enabled with state := .error, cycle := 9 }).state = .recovery ∧
    (issue .step { enabled with state := .error, cycle := 4294967289 }).state = .recovery := by decide

theorem test_E11_recovery_duration :
    recoveryDuration 4 = 6 ∧ recoveryDuration 9 = 1 ∧ recoveryDuration 10 = 10 ∧ recoveryDuration 4294967290 = 6 := by
  simp [recoveryDuration]

theorem test_witness_VisitedStates :
    (∀ q, State.reset.visits.get q ≠ 0xFFFFFFFF) ∧ Instr.step ≠ .reset ∧ ∃ t, exec .reset enabled = .next t :=
  ⟨fun q => by cases q <;> decide, by simp, _, rfl⟩

theorem test_witness_Fifos :
    (fifoOf [1]).level.val < 16 ∧ 0 < (fifoOf [1]).level.val ∧
    (3 : Fin 16).val ≠ ((fifoOf [1]).head.val + (fifoOf [1]).level.val) % 16 := by decide

theorem test_witness_DriverInit : exampleConfig = (some exampleConfig).getD Config.defaultConfig ∧
    Config.defaultConfig = (none : Option Config.DriverConfig).getD Config.defaultConfig := ⟨rfl, rfl⟩

theorem test_witness_DriverEncodes :
    (500000 : Int) ≤ 1000000 ∧ (1000000 : Int) ≤ 1000000 ∧ ((1000000 : Int) < 1000001 ∧ (2000000 : Int) ≤ 2000000) ∧
    (2000000 : Int) < 2000001 := by decide

theorem test_witness_RejectedTransfers :
    newDriver.initialized = false ∧ readyDriver.initialized = true ∧ ({ readyDriver with busy := true }).busy = true := by
  decide

theorem test_witness_SetBaudrate : newDriver.initialized = false ∧ readyDriver.initialized = true ∧
    readyDriver.hw.isSome = true ∧ ((2 : Nat) < 3 ∨ 6 ≤ 2) ∧ ((6 : Nat) < 3 ∨ 6 ≤ 6) := by decide

theorem test_witness_Crc : Instr.step ≠ .reset ∧ ∃ t, exec .reset { enabled with crc0 := 1, crc1 := 2 } = .next t ∧
    t.crc0 = 0 := ⟨by simp, _, rfl, rfl⟩

theorem test_witness_TransferStatistics : readyDriver.initialized = true ∧ readyDriver.busy = false ∧
    readyDriver.hw.isSome = true ∧ readyDriver.preHook.isNone = true ∧ readyDriver.postHook.isNone = true := by decide

/-- A hook that has no answer, one that releases the block, one that returns, and a post hook. -/
theorem test_witness_HooksRun :
    let start := { readyDriver with busy := true, hw := readyDriver.hw.map (issue (.peek .cycle)) }
    let release : (Driver.Reply → Driver.Hook) → Driver.Hook := .call .deinitialize
    (Driver.runHook 0 (release fun _ => .op .step fun _ => .done) start).map (·.busy) = .error .noBlock ∧
    (Driver.runHook 0 (release fun _ => .done) start).map (·.hw.isSome) = .ok false ∧
    (Driver.runHook 0 choosingHook start).map (fun d => (d.hw.isSome, d.postHook.isNone)) = .ok (true, true) ∧
    (Driver.runHook 0 .done { start with postHook := some fun _ => .done }).map (·.postHook.isSome) = .ok true ∧
    outcome (.transfer (some [0x33]) false 0)
      { readyDriver with postHook := some fun _ => release fun _ => .op .step fun _ => .done } (·.busy) = .error .noBlock := by
  decide

theorem test_witness_TransferFromAHook :
    let d := { readyDriver with preHook := some (.call (.transfer (some [1]) true 0) fun _ => .done) }
    d.initialized = true ∧ d.busy = false ∧ d.hw.isSome = true ∧ d.postHook.isNone = true ∧ d.preHook.isSome = true ∧
      ({ d with busy := true }).busy = true := by decide

/-- A disabled block in which a byte moves with no wait. -/
def polled : State := { State.reset with sr := 0x3, rx := fifoOf [0x5A] }

/-- Both waits succeed at once, the first fails, the second fails; the byte read is the one that waits, or 0. -/
theorem test_witness_ByteMoves :
    (Driver.waitSr txe 0 polled).1 = .ok ∧ (Driver.waitSr rxne 0 (issue (.wrDr 0x33) (Driver.waitSr txe 0 polled).2)).1 = .ok ∧
    (Driver.waitSr txe 0 { polled with sr := 0x1 }).1 = .timeout ∧
    (Driver.waitSr rxne 0 (issue (.wrDr 0x33) (Driver.waitSr txe 0 { polled with sr := 0x2 }).2)).1 = .timeout ∧
    polled.rx.contents = 0x5A :: [] ∧ ({ polled with rx := Fifo.empty }).rx.contents = [] := by decide

/-- That block when its byte was read. -/
def drained : State := issue .rdDr (issue .rdSr (issue (.wrDr 0x11) (issue .rdSr (issue (.peek .cycle) polled))))

/-- One byte completes, the next times out: RXNE clears with the read that drains the FIFO. The block is that of a driver
right after a transfer's start. -/
theorem test_witness_CompletedBytes : ∃ s2,
    Driver.byteLoop 0 [0x11] (issue (.peek .cycle) polled) = (.ok, [0x5A], steps 100 drained) ∧
    Driver.moveByte 0 0x22 (steps 100 drained) = (.timeout, none, s2) ∧ 0 = (0#32).toNat * 1000 ∧
    ({ readyDriver with hw := some polled }).hw = some polled ∧ readyDriver.initialized = true ∧ readyDriver.busy = false ∧
    readyDriver.preHook.isNone = true ∧ readyDriver.postHook.isNone = true := by
  have h1 : Driver.moveByte 0 0x11 (issue (.peek .cycle) polled) = (.ok, some 0x5A, steps 100 drained) := rfl
  have h2 : (steps 100 drained).sr = 0x2#32 := (steps_disabled 100 (by decide)).2.trans (by decide)
  refine ⟨issue .rdSr (issue (.wrDr 0x22) (issue .rdSr (steps 100 drained))), by rw [Driver.byteLoop, h1]; rfl, ?_, rfl, rfl, rfl,
    rfl, rfl, rfl⟩
  rw [Driver.moveByte, Driver.waitSr_ok (by rw [h2]; decide)]
  simp only
  rw [busWrite_dr, Driver.waitSr_timeout]
  · rfl
  · have h3 (u : State) : (issue (.wrDr (zext 0x22)) u).sr = u.sr := by
      obtain ⟨tx, n, h⟩ := drWritePush_frame (zext 0x22) (coverWrite .dr (zext 0x22) u)
      show (drWritePush (zext 0x22) (coverWrite .dr (zext 0x22) u)).sr = _
      rw [h]; simp
    have h4 (u : State) : (issue .rdSr u).sr = u.sr := rfl
    rw [h3, h4, h2]; decide

theorem test_witness_EveryDriverCallKeeps : Driver.TransmitWait newDriver ∧ Driver.TransmitWait readyDriver := by
  refine ⟨⟨rfl, rfl, rfl, fun s h => by cases h⟩, rfl, rfl, rfl, fun s h => ?_⟩
  cases h
  refine ⟨rfl, ?_, by decide, by decide, by decide, .inl rfl⟩
  show (Driver.cr1Of exampleConfig ||| 0x40#32).getLsbD 6 = true
  simp

theorem test_witness_DriverOnly :
    newDriver.initialized = false ∧ newDriver.hw = none ∧ newDriver.preHook.isNone = true ∧
    newDriver.postHook.isNone = true ∧
    (Driver.callAll 0 [.init true none, .setBaudrate 3000000, .dma] newDriver).map (·.initialized) = .ok true :=
  ⟨rfl, rfl, rfl, rfl, rfl⟩

theorem test_witness_OtherDriverCalls :
    newDriver.st.bytes = 0 ∧ (⟨1, 8, 100000, 1⟩ : Driver.Stats).bytes ≠ 0 ∧
    (⟨1, 8, 100000, 1⟩ : Driver.Stats).latency ≠ 0 ∧ newDriver.busy = false := by decide

/-- A wait that succeeds at once and one that spends its budget. -/
theorem test_witness_Wait :
    (Driver.waitSr txe 0 State.reset).1 = .ok ∧ (Driver.waitSr rxne 2 State.reset).1 = .timeout ∧
    (Driver.waitSr rxne 2 State.reset).2.cycle = 2 := by decide

end Sys2Proof.Tests
end

section
/-! Decode undoes encode (30_encoding.md R81 to R85), row by row of the opcode table. -/

namespace Sys2Proof

theorem decodeRead_of_unmapped {off : Word} (h : mappedOffset off = false) : decodeRead off = .rdUnmapped off := by
  simp [decodeRead, offsetReg_eq_none.mpr h]

theorem decodeWrite_of_unmapped {off : Word} (h : mappedOffset off = false) (v : Word) :
    decodeWrite off v = .wrUnmapped off v := by
  simp [decodeWrite, offsetReg_eq_none.mpr h]

/-! The decoder on a request word given by its fields, one equation per accepted kind. -/

theorem decode_read (off v : Word) : decode ⟨requestWord 0b000 off, v⟩ = .ok (decodeRead off) := by
  simp [decode]

theorem decode_write (off v : Word) : decode ⟨requestWord 0b001 off, v⟩ = .ok (decodeWrite off v) := by
  simp [decode]

theorem decode_forceState (q : FsmState) (v : Word) :
    decode ⟨requestWord 0b101 (BitVec.ofNat 32 (stateCode q)), v⟩ = .ok (.forceState q) := by
  have hsel : stateCode q % 2 ^ 32 = stateCode q := Nat.mod_eq_of_lt (by have := stateCode_lt q; omega)
  simp only [decode, kindField_requestWord, selField_requestWord, BitVec.toNat_ofNat, hsel, stateOfCode_stateCode]
  rfl

theorem decode_peek (k : PeekItem) (v : Word) :
    decode ⟨requestWord 0b110 (BitVec.ofNat 32 (selOfPeek k)), v⟩ = .ok (.peek k) := by
  have hsel : selOfPeek k % 2 ^ 32 = selOfPeek k := Nat.mod_eq_of_lt (by have := selOfPeek_lt k; omega)
  simp only [decode, kindField_requestWord, selField_requestWord, BitVec.toNat_ofNat, hsel, peekOfSel_selOfPeek]
  rfl

/-- A well-formed instruction comes back from its request, with every operand. -/
theorem decode_encode {i : Instr} (h : i.wellFormed = true) : decode (encode i) = .ok i := by
  cases i with
  | rdCr1 | rdCr2 | rdSr | rdDr => exact decode_read (regOffset _) 0
  | wrCr1 v | wrCr2 v | wrSr v | wrDr v => exact decode_write (regOffset _) v
  | rdUnmapped off =>
    have hoff : mappedOffset off = false := by simpa [Instr.wellFormed] using h
    exact (decode_read off 0).trans (congrArg _ (decodeRead_of_unmapped hoff))
  | wrUnmapped off v =>
    have hoff : mappedOffset off = false := by simpa [Instr.wellFormed] using h
    exact (decode_write off v).trans (congrArg _ (decodeWrite_of_unmapped hoff v))
  | step | reset | pokeSr v => simp [encode, decode]
  | forceState q => exact decode_forceState q 0
  | peek k => exact decode_peek k 0

theorem decodeTableWord_eq_some {nbits w : Nat} {i : Instr} :
    decodeTableWord nbits w = some i ↔ decode (tableRequest nbits w) = .ok i := by
  unfold decodeTableWord
  cases decode (tableRequest nbits w) <;> simp

end Sys2Proof
end

section
/-! The host's pending requests (log entry 1): no part of an operation reads or changes them. -/

namespace Sys2Proof.Machine

/-- The state with other requests pending. -/
def withRequests (rs : List Request) (s : State) : State := { s with requests := rs }

@[simp] theorem withRequests_requests (rs : List Request) (s : State) : (withRequests rs s).requests = rs := rfl

@[simp] theorem withRequests_withRequests (rs rs' : List Request) (s : State) :
    withRequests rs (withRequests rs' s) = withRequests rs s := rfl

theorem setState_withRequests (q : FsmState) (rs : List Request) (s : State) :
    setState q (withRequests rs s) = withRequests rs (setState q s) := by
  obtain ⟨hq, heq⟩ | ⟨hq, heq⟩ := setState_cases q s
  · rw [heq, setState_self (withRequests rs s) hq]
  · rw [heq, setState_of_ne (withRequests rs s) hq]; rfl

theorem drWritePush_withRequests (v : Word) (rs : List Request) (s : State) :
    drWritePush v (withRequests rs s) = withRequests rs (drWritePush v s) :=
  (apply_ite (withRequests rs) (s.tx.level.val < 16) (countTx (txPush (lowByte v) s)) s).symm

theorem clearRxneIfDrained_withRequests (rs : List Request) (s : State) :
    clearRxneIfDrained (withRequests rs s) = withRequests rs (clearRxneIfDrained s) :=
  (apply_ite (withRequests rs) (s.rx.level.val = 0) (setSr (withRxne false s.sr) s) s).symm

theorem drReadPop_withRequests (rs : List Request) (s : State) :
    drReadPop (withRequests rs s) = withRequests rs (drReadPop s) := by
  have hpop : clearRxneIfDrained (countRx (rxPop (withRequests rs s))) =
      withRequests rs (clearRxneIfDrained (countRx (rxPop s))) := clearRxneIfDrained_withRequests rs (countRx (rxPop s))
  simp only [drReadPop, hpop]
  exact (apply_ite (withRequests rs) _ _ _).symm

theorem shiftOut_withRequests (rs : List Request) (s : State) :
    shiftOut (withRequests rs s) = withRequests rs (shiftOut s) := by
  by_cases h : 0 < s.tx.level.val
  · rw [shiftOut_byte h, shiftOut_byte (s := withRequests rs s) h]; rfl
  · have hempty : s.tx.level.val = 0 := by omega
    rw [shiftOut_empty hempty, shiftOut_empty (s := withRequests rs s) hempty]

theorem txExit_withRequests (rs : List Request) (s : State) :
    txExit (withRequests rs s) = withRequests rs (txExit s) := by
  simp only [txExit, setState_withRequests, apply_ite (withRequests rs)]
  rfl

/-- The arm of each FSM state (41_clock_step.md R137 to R146). -/
theorem stateArm_withRequests (rs : List Request) (s : State) :
    stateArm (withRequests rs s) = withRequests rs (stateArm s) := by
  have hstate : (withRequests rs s).state = s.state := rfl
  simp only [stateArm, hstate]
  cases s.state with
  | idle => simp only [stepIdle, setState_withRequests, apply_ite (withRequests rs)]; rfl
  | txActive => simp only [stepTx, shiftOut_withRequests, txExit_withRequests]
  | rxActive =>
    have hidle : setState .idle (setSr (withRxne false s.sr) (withRequests rs s)) =
        withRequests rs (setState .idle (setSr (withRxne false s.sr) s)) :=
      setState_withRequests .idle rs (setSr (withRxne false s.sr) s)
    simp only [stepRx, apply_ite (withRequests rs), ← hidle]
    rfl
  | txrxActive => rfl
  | error => simp only [stepError, setState_withRequests, apply_ite (withRequests rs)]; rfl
  | recovery => simp only [stepRecovery, setState_withRequests, apply_ite (withRequests rs)]; rfl

theorem clockStep_withRequests (rs : List Request) (s : State) :
    clockStep (withRequests rs s) = withRequests rs (clockStep s) := by
  have htick : tickCycle (withRequests rs s) = withRequests rs (tickCycle s) := rfl
  by_cases h : spe s.cr1 = true
  · rw [clockStep_enabled h, clockStep_enabled (s := withRequests rs s) h, htick, stateArm_withRequests]
    rfl
  · have hoff : spe s.cr1 = false := by simpa using h
    rw [clockStep_disabled hoff, clockStep_disabled (s := withRequests rs s) hoff, htick, setState_withRequests]

/-- What is pending changes nothing about an operation, and the operation leaves it pending: RESET too. -/
theorem issue_withRequests (i : Instr) (rs : List Request) (s : State) :
    issue i (withRequests rs s) = withRequests rs (issue i s) := by
  cases i with
  | wrDr v => exact congrArg (answer none) (drWritePush_withRequests v rs (coverWrite .dr v s))
  | rdDr => exact congrArg (finishRead .dr (drReadValue s)) (drReadPop_withRequests rs s)
  | step => exact congrArg (answer none) (clockStep_withRequests rs s)
  | forceState q => exact congrArg (answer none) (setState_withRequests q rs s)
  | rdCr1 | rdCr2 | rdSr | rdUnmapped _ | wrCr1 _ | wrCr2 _ | wrSr _ | wrUnmapped _ _ | reset | pokeSr _ | peek _ => rfl

end Sys2Proof.Machine
end

section
/-! Steps of the machine and its pending requests (00_scope.md R6, 20_memory.md R69). -/

namespace Sys2Proof.Machine

theorem step_of_no_requests {s : State} (h : s.requests = []) : step s = .next s := by
  simp [step, takeRequest_nil h]

theorem step_of_decode {s : State} {r : Request} {rest : List Request} {i : Instr} (hreq : s.requests = r :: rest)
    (hdec : decode r = .ok i) : step s = exec i (withRequests rest s) := by
  simp [step, takeRequest_cons hreq, hdec, withRequests]

theorem step_withFetchWord {s : State} {nbits w : Nat} {i : Instr} (h : decodeTableWord nbits w = some i) :
    step (s.withFetchWord nbits w) = exec i s := by
  simp [step, State.withFetchWord, decodeTableWord_eq_some.mp h]

theorem core_run_succ {s t : State} (h : step s = .next t) (k : Nat) : core.run (k + 1) s = core.run k t := by
  have hcore : core.step s = .next t := h
  simp only [Host.Core.run, hcore]

/-- The step that takes an encoded instruction from the front of the requests. -/
theorem step_encode {s : State} {i : Instr} {rest : List Request} (hwf : i.wellFormed = true)
    (hreq : s.requests = encode i :: rest) : step s = .next (withRequests rest (issue i s)) := by
  rw [step_of_decode hreq (decode_encode hwf), exec_eq_issue, issue_withRequests]

/-- Running the encoded instructions is issuing them in order, with the later requests still pending. -/
theorem core_run_encoded {is : List Instr} {rest : List Request} {s : State} (hwf : ∀ i ∈ is, i.wellFormed = true)
    (hreq : s.requests = is.map encode ++ rest) :
    core.run is.length s = .next (issueAll is (withRequests rest s)) := by
  induction is generalizing s with
  | nil =>
    have hs : withRequests rest s = s := by
      simp only [List.map_nil, List.nil_append] at hreq
      rw [← hreq]; rfl
    exact congrArg _ hs.symm
  | cons i is ih =>
    have hstep : step s = .next (withRequests (is.map encode ++ rest) (issue i s)) :=
      step_encode (hwf i List.mem_cons_self) hreq
    have hrest := ih (s := withRequests (is.map encode ++ rest) (issue i s))
      (fun j hj => hwf j (List.mem_cons_of_mem i hj)) (withRequests_requests _ _)
    rw [List.length_cons, core_run_succ hstep, hrest, withRequests_withRequests, ← issue_withRequests]
    rfl

end Sys2Proof.Machine
end

section
/-! The obligations about the host's requests. -/

namespace Sys2Proof.Machine

/-- Settles O9: by induction over the instructions, each step takes the front request and issues its instruction, and
issuing commutes with replacing what is pending. -/
theorem pendingRequestsRunInIssueOrder : Obligations.PendingRequestsRunInIssueOrder := by
  intro is rest s hwf hreq
  exact (core_run_encoded hwf hreq).trans (execAll_eq_issueAll is (withRequests rest s)).symm

/-- Settles O8: the three outcomes of `step` that do not refuse. -/
theorem stepRunsTheDecodedRequest : Obligations.StepRunsTheDecodedRequest :=
  ⟨fun _ _ _ _ hreq hdec => step_of_decode hreq hdec, fun _ h => step_of_no_requests h,
    fun _ _ _ _ h => step_withFetchWord h⟩

/-- Settles O55: the power-on state of 42_control_ops.md R170 already has no returned value, so the closing `answer none`
of RESET adds nothing. -/
theorem resetKeepsTheHostsRequests : Obligations.ResetKeepsTheHostsRequests := by
  intro s
  have hanswer : answer none (resetBlock s) = resetBlock s := rfl
  exact congrArg Host.Outcome.next hanswer

end Sys2Proof.Machine
end

section
/-! The tracker invariant (10_state.md R42): SetState keeps it, and the matrix and the visit counters change through
SetState and RESET alone. -/

namespace Sys2Proof.Machine

theorem matrixEntry_setState {q : FsmState} {s : State} (h : q ≠ s.state) (i j : FsmState) :
    matrixEntry (setState q s) i j = if i = s.state ∧ j = q then matrixEntry s i j + 1 else matrixEntry s i j := by
  unfold matrixEntry
  rw [setState_matrix, if_neg h, PerState.get_set]
  by_cases hi : i = s.state
  · by_cases hj : j = q <;> simp [hi, hj, matrixEntry]
  · simp [hi]

theorem visits_setState {q : FsmState} {s : State} (h : q ≠ s.state) (p : FsmState) :
    (setState q s).visits.get p = if p = q then s.visits.get p + 1 else s.visits.get p := by
  rw [setState_visits, if_neg h, PerState.get_set]
  by_cases hp : p = q <;> simp [hp]

/-- Exactly one of the six entries into `q` grows, the one from the state that is left. -/
theorem entriesInto_setState {q : FsmState} {s : State} (h : q ≠ s.state) (p : FsmState) :
    entriesInto (setState q s) p = if p = q then entriesInto s p + 1 else entriesInto s p := by
  simp only [entriesInto, matrixEntry_setState h]
  by_cases hp : p = q
  · cases s.state <;> simp [hp] <;> ring
  · simp [hp]

/-- The invariant speaks of the matrix and the visit counters alone. -/
theorem trackerInv_congr {s t : State} (hm : t.matrix = s.matrix) (hv : t.visits = s.visits) :
    TrackerInv t ↔ TrackerInv s := by
  simp only [TrackerInv, entriesInto, matrixEntry, hm, hv]

theorem setState_keeps_trackerInv {s : State} (hinv : TrackerInv s) (q : FsmState) : TrackerInv (setState q s) := by
  obtain ⟨hdiag, hvisits⟩ := hinv
  obtain ⟨_, heq⟩ | ⟨hne, _⟩ := setState_cases q s
  · rw [heq]; exact ⟨hdiag, hvisits⟩
  · refine ⟨fun p => ?_, fun p => ?_⟩
    · have hoff : ¬ (p = s.state ∧ p = q) := fun ⟨hs, hq⟩ => hne (hq.symm.trans hs)
      rw [matrixEntry_setState hne, if_neg hoff, hdiag]
    · rw [visits_setState hne, entriesInto_setState hne, hvisits]

/-! The reset state (10_state.md R40). -/

theorem matrixEntry_reset (i j : FsmState) : matrixEntry State.reset i j = 0 := by
  simp [matrixEntry, State.reset]

theorem visits_reset (q : FsmState) : State.reset.visits.get q = 0 :=
  PerState.get_uniform 0 q

theorem Fifo.empty_buf (k : Fin 16) : Fifo.empty.buf[k] = 0 := by
  simp [Fifo.empty]

theorem powerOn_reset : PowerOn State.reset :=
  ⟨rfl, rfl, rfl, rfl, rfl, fun k => ⟨Fifo.empty_buf k, Fifo.empty_buf k⟩, rfl, rfl, rfl, rfl, rfl, rfl, rfl, rfl,
    matrixEntry_reset, visits_reset, fun r => by cases r <;> exact ⟨rfl, rfl⟩⟩

theorem trackerInv_reset : TrackerInv State.reset :=
  ⟨fun q => matrixEntry_reset q q, fun q => by simp [visits_reset, entriesInto, matrixEntry_reset]⟩

/-! Operations and steps. -/

/-- By cases on the operation: STEP and FORCE_STATE go through SetState, RESET zeroes the counts, the rest keep them. -/
theorem issue_keeps_trackerInv {s : State} (hinv : TrackerInv s) (i : Instr) : TrackerInv (issue i s) := by
  cases i with
  | step =>
    obtain ⟨q, u, v, hstep, _, hm, hv, _⟩ := issue_step_cases s
    have hset : TrackerInv (setState q u) := setState_keeps_trackerInv ((trackerInv_congr hm hv).mpr hinv) q
    rw [hstep]
    exact hset
  | forceState q => exact setState_keeps_trackerInv hinv q
  | reset => exact trackerInv_reset
  | wrDr v =>
    obtain ⟨tx, n, hpush⟩ := drWritePush_frame v (coverWrite .dr v s)
    have hissue : issue (.wrDr v) s = answer none (drWritePush v (coverWrite .dr v s)) := rfl
    rw [hissue, hpush]
    exact hinv
  | rdDr =>
    obtain ⟨rx, v, n, hpop, _⟩ := drReadPop_frame s
    have hissue : issue .rdDr s = finishRead .dr (drReadValue s) (drReadPop s) := rfl
    rw [hissue, hpop]
    exact hinv
  | rdCr1 | rdCr2 | rdSr | rdUnmapped _ | wrCr1 _ | wrCr2 _ | wrSr _ | wrUnmapped _ _ | pokeSr _ | peek _ => exact hinv

/-- A step that goes on is idle or issues one instruction with the later requests still pending. -/
theorem eq_of_step {s t : State} (h : step s = .next t) :
    t = s ∨ ∃ i rest, t = issue i (withRequests rest s) := by
  cases hreq : s.requests with
  | nil =>
    rw [step_of_no_requests hreq] at h
    exact .inl (Host.Outcome.next.inj h).symm
  | cons r rest =>
    cases hdec : decode r with
    | error e => simp [step, takeRequest_cons hreq, hdec] at h
    | ok i => exact .inr ⟨i, rest, eq_issue_of_exec ((step_of_decode hreq hdec).symm.trans h)⟩

end Sys2Proof.Machine
end

section
/-! The obligations about the tracker invariant and the power-on values. -/

namespace Sys2Proof.Machine

/-- Settles O37: a step is idle or issues one operation, and every operation keeps the invariant. -/
theorem everyStepKeepsTheTrackerInvariant : Obligations.EveryStepKeepsTheTrackerInvariant := by
  intro s t hinv hstep
  obtain rfl | ⟨i, rest, rfl⟩ := eq_of_step hstep
  · exact hinv
  · exact issue_keeps_trackerInv (s := withRequests rest s) hinv i

/-- Settles O36: all entries and all visit counters are zero. -/
theorem trackerInvariantHoldsAtReset : Obligations.TrackerInvariantHoldsAtReset := trackerInv_reset

/-- Settles O17: component by component. -/
theorem resetStateHasThePowerOnValues : Obligations.ResetStateHasThePowerOnValues := powerOn_reset

end Sys2Proof.Machine
end

section
/-! Coverage (10_state.md R38): what each operation adds to the write and to the read coverage of a register. -/

namespace Sys2Proof.Machine

theorem coverWrite_get (r q : RegName) (v : Word) (s : State) :
    (coverWrite r v s).wcov.get q = s.wcov.get q ||| if q = r then v else 0 := by
  by_cases h : q = r <;> simp [coverWrite, h]

theorem finishRead_get (r q : RegName) (v : Word) (s : State) :
    (finishRead r v s).rcov.get q = s.rcov.get q ||| if some r = some q then v else 0 := by
  by_cases h : q = r
  · simp [finishRead, coverRead, h]
  · simp [finishRead, coverRead, h, Ne.symm h]

theorem drWritePush_wcov (v : Word) (s : State) : (drWritePush v s).wcov = s.wcov := by
  obtain ⟨_, _, h⟩ := drWritePush_frame v s
  rw [h]

theorem drWritePush_rcov (v : Word) (s : State) : (drWritePush v s).rcov = s.rcov := by
  obtain ⟨_, _, h⟩ := drWritePush_frame v s
  rw [h]

theorem drReadPop_wcov (s : State) : (drReadPop s).wcov = s.wcov := by
  obtain ⟨_, _, _, h, _⟩ := drReadPop_frame s
  rw [h]

theorem drReadPop_rcov (s : State) : (drReadPop s).rcov = s.rcov := by
  obtain ⟨_, _, _, h, _⟩ := drReadPop_frame s
  rw [h]

theorem issue_step_coverage (s : State) : (issue .step s).wcov = s.wcov ∧ (issue .step s).rcov = s.rcov := by
  obtain ⟨q, u, v, hstep, _, _, _, hw, hr, _⟩ := issue_step_cases s
  simp [hstep, hw, hr]

/-- An operation adds the value it writes to a register to that register's write coverage, and nothing else. -/
theorem issue_wcov_get {i : Instr} (hi : i ≠ .reset) (s : State) (r : RegName) :
    (issue i s).wcov.get r = s.wcov.get r ||| writtenTo r i := by
  have hnone : s.wcov.get r = s.wcov.get r ||| 0#32 := (BitVec.or_zero).symm
  cases i with
  | wrCr1 v => exact coverWrite_get .cr1 r v s
  | wrCr2 v => exact coverWrite_get .cr2 r v s
  | wrSr v => exact coverWrite_get .sr r v s
  | wrDr v => exact (congrArg (PerReg.get · r) (drWritePush_wcov v _)).trans (coverWrite_get .dr r v s)
  | rdDr => exact (congrArg (PerReg.get · r) (drReadPop_wcov s)).trans hnone
  | step => exact (congrArg (PerReg.get · r) (issue_step_coverage s).1).trans hnone
  | forceState q => exact (congrArg (PerReg.get · r) (setState_wcov s q)).trans hnone
  | rdCr1 | rdCr2 | rdSr | rdUnmapped _ | wrUnmapped _ _ | pokeSr _ | peek _ => exact hnone
  | reset => exact absurd rfl hi

/-- A read of a register adds the value it returns to that register's read coverage; nothing else is added. -/
theorem issue_rcov_get {i : Instr} (hi : i ≠ .reset) (s : State) (r : RegName) :
    (issue i s).rcov.get r = s.rcov.get r ||| if registerRead i = some r then returned (issue i s) else 0 := by
  have hnone : s.rcov.get r = s.rcov.get r ||| 0#32 := (BitVec.or_zero).symm
  cases i with
  | rdCr1 => exact finishRead_get .cr1 r s.cr1 s
  | rdCr2 => exact finishRead_get .cr2 r s.cr2 s
  | rdSr => exact finishRead_get .sr r s.sr s
  | rdDr => exact drReadPop_rcov s ▸ finishRead_get .dr r (drReadValue s) (drReadPop s)
  | wrDr v => exact (congrArg (PerReg.get · r) (drWritePush_rcov v _)).trans hnone
  | step => exact (congrArg (PerReg.get · r) (issue_step_coverage s).2).trans hnone
  | forceState q => exact (congrArg (PerReg.get · r) (setState_rcov s q)).trans hnone
  | rdUnmapped _ | wrCr1 _ | wrCr2 _ | wrSr _ | wrUnmapped _ _ | pokeSr _ | peek _ => exact hnone
  | reset => exact absurd rfl hi

/-- A read of a register returns a value. -/
theorem issue_result_of_read {i : Instr} {r : RegName} (h : registerRead i = some r) (s : State) :
    ∃ v, (issue i s).result = some v := by
  cases i with
  | rdCr1 | rdCr2 | rdSr | rdDr => exact ⟨_, rfl⟩
  | rdUnmapped _ | wrCr1 _ | wrCr2 _ | wrSr _ | wrDr _ | wrUnmapped _ _ | step | reset | pokeSr _ | forceState _
  | peek _ => cases h

end Sys2Proof.Machine
end

section
/-! The status register under the block's own operations (10_state.md R27, R29). -/

namespace Sys2Proof.Machine

theorem getLsbD_withRxne (b : Bool) (v : Word) (k : Nat) :
    (withRxne b v).getLsbD k = if k = 0 then b else v.getLsbD k :=
  getLsbD_setBit v 0 b (by decide) k

theorem getLsbD_withTxe (b : Bool) (v : Word) (k : Nat) :
    (withTxe b v).getLsbD k = if k = 1 then b else v.getLsbD k :=
  getLsbD_setBit v 1 b (by decide) k

theorem drWritePush_sr (v : Word) (s : State) : (drWritePush v s).sr = s.sr := by
  obtain ⟨_, _, h⟩ := drWritePush_frame v s
  rw [h]

@[simp] theorem shiftOut_sr (s : State) : (shiftOut s).sr = s.sr := by
  by_cases h : 0 < s.tx.level.val
  · rw [shiftOut_byte h]
  · rw [shiftOut_empty (by omega)]

@[simp] theorem txExit_sr (s : State) : (txExit s).sr = s.sr := by
  unfold txExit
  split
  · split <;> simp
  · rfl

/-- Only the RX_ACTIVE arm writes SR, and there only RXNE (41_clock_step.md R143). -/
theorem stateArm_sr (s : State) : (stateArm s).sr =
    if s.state = .rxActive then withRxne (decide (0 < s.rx.level.val)) s.sr else s.sr := by
  unfold stateArm
  cases hs : s.state with
  | idle => simp [stepIdle, apply_ite State.sr]
  | txActive => simp [stepTx]
  | rxActive => by_cases h : 0 < s.rx.level.val <;> simp [stepRx, h]
  | txrxActive => simp [stepTxrx]
  | error => simp [stepError, apply_ite State.sr]
  | recovery => simp [stepRecovery, apply_ite State.sr]

theorem issue_step_sr_disabled {s : State} (h : spe s.cr1 = false) : (issue .step s).sr = s.sr := by
  simp [issue_step, clockStep_disabled h]

theorem issue_step_sr_enabled {s : State} (h : spe s.cr1 = true) : (issue .step s).sr =
    withTxe (txeOf (stateArm (tickCycle s)).tx)
      (if s.state = .rxActive then withRxne (decide (0 < s.rx.level.val)) s.sr else s.sr) := by
  simp [issue_step, clockStep_enabled h, recomputeTxe, stateArm_sr]

/-- A STEP writes TXE when enabled and RXNE when enabled in RX_ACTIVE, and no other bit of SR. -/
theorem issue_step_getLsbD_sr {s : State} {k : Nat}
    (hk : (issue .step s).sr.getLsbD k ≠ s.sr.getLsbD k) :
    s.cr1.getLsbD 6 = true ∧ (k = 1 ∨ (k = 0 ∧ s.state = .rxActive)) := by
  cases hspe : spe s.cr1 with
  | false => rw [issue_step_sr_disabled hspe] at hk; exact absurd rfl hk
  | true =>
    refine ⟨hspe, ?_⟩
    rw [issue_step_sr_enabled hspe, getLsbD_withTxe] at hk
    by_cases h1 : k = 1
    · exact .inl h1
    · rw [if_neg h1] at hk
      split at hk
      next hrx =>
        rw [getLsbD_withRxne] at hk
        exact .inr ⟨by by_contra h0; exact hk (if_neg h0), hrx⟩
      next => exact absurd rfl hk

theorem issue_rdDr_sr (s : State) : (issue .rdDr s).sr = s.sr ∨
    ((issue .rdDr s).sr = withRxne false s.sr ∧ s.rx.level.val = 1) := by
  obtain ⟨rx, v, n, hpop, hv⟩ := drReadPop_frame s
  have hsr : (issue .rdDr s).sr = v := congrArg State.sr hpop
  rwa [hsr]

/-- A DR read writes no bit of SR but RXNE, which it clears when it takes the last received byte (R110). -/
theorem issue_rdDr_getLsbD_sr {s : State} {k : Nat}
    (hk : (issue .rdDr s).sr.getLsbD k ≠ s.sr.getLsbD k) :
    k = 0 ∧ s.rx.level.val = 1 ∧ (issue .rdDr s).sr.getLsbD 0 = false := by
  obtain hsr | ⟨hsr, hlast⟩ := issue_rdDr_sr s
  · rw [hsr] at hk; exact absurd rfl hk
  · refine ⟨?_, hlast, by rw [hsr, getLsbD_withRxne, if_pos rfl]⟩
    rw [hsr, getLsbD_withRxne] at hk
    by_contra h0
    exact hk (if_neg h0)

/-- Besides the three operations by which the host writes SR, only STEP and the DR read can change a bit of it. -/
theorem issue_getLsbD_sr_cases {i : Instr} {s : State} {k : Nat} (hwr : ∀ v, i ≠ .wrSr v) (hpoke : ∀ v, i ≠ .pokeSr v)
    (hreset : i ≠ .reset) (hk : (issue i s).sr.getLsbD k ≠ s.sr.getLsbD k) :
    (i = .step ∧ s.cr1.getLsbD 6 = true ∧ (k = 1 ∨ (k = 0 ∧ s.state = .rxActive))) ∨
    (i = .rdDr ∧ k = 0 ∧ s.rx.level.val = 1 ∧ (issue i s).sr.getLsbD 0 = false) := by
  cases i with
  | step => exact .inl ⟨rfl, issue_step_getLsbD_sr hk⟩
  | rdDr => exact .inr ⟨rfl, issue_rdDr_getLsbD_sr hk⟩
  | wrDr v => exact absurd (congrArg (·.getLsbD k) (drWritePush_sr v (coverWrite .dr v s))) hk
  | forceState q => exact absurd (congrArg (·.getLsbD k) (setState_sr s q)) hk
  | wrSr v => exact absurd rfl (hwr v)
  | pokeSr v => exact absurd rfl (hpoke v)
  | reset => exact absurd rfl hreset
  | rdCr1 | rdCr2 | rdSr | rdUnmapped _ | wrCr1 _ | wrCr2 _ | wrUnmapped _ _ | peek _ => exact absurd rfl hk

end Sys2Proof.Machine
end

section
/-! CR1, CR2 and the CRC cells (10_state.md R22, R24, R25): apart from the accesses to CR1 and CR2 and RESET, no part of
an operation writes them, and none reads more of them than SPE. -/

namespace Sys2Proof.Machine

/-- The contents of CR1, CR2 and the two CRC cells. -/
structure Cells where
  cr1  : Word
  cr2  : Word
  crc0 : Word
  crc1 : Word

/-- The cells' contents in a state. -/
def cellsOf (s : State) : Cells := ⟨s.cr1, s.cr2, s.crc0, s.crc1⟩

/-- The state with other contents in those cells. -/
def withCells (c : Cells) (s : State) : State := { s with cr1 := c.cr1, cr2 := c.cr2, crc0 := c.crc0, crc1 := c.crc1 }

/-- Does the operation leave the cells alone and read at most SPE of them? All do but the accesses to CR1 and CR2 and
RESET. -/
def sparesCells : Instr → Bool
  | .rdCr1 | .rdCr2 | .wrCr1 _ | .wrCr2 _ | .reset => false
  | .rdSr | .rdDr | .rdUnmapped _ | .wrSr _ | .wrDr _ | .wrUnmapped _ _ | .step | .pokeSr _ | .forceState _
  | .peek _ => true

theorem cellsOf_withCells (c : Cells) (s : State) : cellsOf (withCells c s) = c := rfl

theorem setState_withCells (q : FsmState) (c : Cells) (s : State) :
    setState q (withCells c s) = withCells c (setState q s) := by
  obtain ⟨hq, heq⟩ | ⟨hq, heq⟩ := setState_cases q s
  · rw [heq, setState_self (withCells c s) hq]
  · rw [heq, setState_of_ne (withCells c s) hq]; rfl

theorem drWritePush_withCells (v : Word) (c : Cells) (s : State) :
    drWritePush v (withCells c s) = withCells c (drWritePush v s) :=
  (apply_ite (withCells c) (s.tx.level.val < 16) (countTx (txPush (lowByte v) s)) s).symm

theorem clearRxneIfDrained_withCells (c : Cells) (s : State) :
    clearRxneIfDrained (withCells c s) = withCells c (clearRxneIfDrained s) :=
  (apply_ite (withCells c) (s.rx.level.val = 0) (setSr (withRxne false s.sr) s) s).symm

theorem drReadPop_withCells (c : Cells) (s : State) : drReadPop (withCells c s) = withCells c (drReadPop s) := by
  have hpop := clearRxneIfDrained_withCells c (countRx (rxPop s))
  unfold drReadPop
  rw [apply_ite (withCells c), ← hpop]
  rfl

theorem shiftOut_withCells (c : Cells) (s : State) : shiftOut (withCells c s) = withCells c (shiftOut s) := by
  by_cases h : 0 < s.tx.level.val
  · rw [shiftOut_byte h, shiftOut_byte (s := withCells c s) h]; rfl
  · have hempty : s.tx.level.val = 0 := by omega
    rw [shiftOut_empty hempty, shiftOut_empty (s := withCells c s) hempty]

theorem txExit_withCells (c : Cells) (s : State) : txExit (withCells c s) = withCells c (txExit s) := by
  simp only [txExit, setState_withCells, apply_ite (withCells c)]
  rfl

/-- The arm of each FSM state: none reads CR1, not even SPE (41_clock_step.md R137 to R146). -/
theorem stateArm_withCells (c : Cells) (s : State) : stateArm (withCells c s) = withCells c (stateArm s) := by
  have hstate : (withCells c s).state = s.state := rfl
  unfold stateArm
  rw [hstate]
  cases s.state with
  | idle => simp only [stepIdle, setState_withCells, apply_ite (withCells c)]; rfl
  | txActive => simp only [stepTx, shiftOut_withCells, txExit_withCells]
  | rxActive => simp only [stepRx, apply_ite (withCells c), ← setState_withCells]; rfl
  | txrxActive => rfl
  | error => simp only [stepError, setState_withCells, apply_ite (withCells c)]; rfl
  | recovery => simp only [stepRecovery, setState_withCells, apply_ite (withCells c)]; rfl

theorem clockStep_withCells {c : Cells} {s : State} (hspe : spe c.cr1 = spe s.cr1) :
    clockStep (withCells c s) = withCells c (clockStep s) := by
  have htick : tickCycle (withCells c s) = withCells c (tickCycle s) := rfl
  have hspe' : spe (withCells c s).cr1 = spe s.cr1 := hspe
  cases h : spe s.cr1 with
  | true => rw [clockStep_enabled h, clockStep_enabled (hspe'.trans h), htick, stateArm_withCells]; rfl
  | false => rw [clockStep_disabled h, clockStep_disabled (hspe'.trans h), htick, setState_withCells]

/-- With the same SPE, other contents of the cells change nothing about an operation that spares them. -/
theorem issue_withCells {i : Instr} (hi : sparesCells i = true) {c : Cells} {s : State} (hspe : spe c.cr1 = spe s.cr1) :
    issue i (withCells c s) = withCells c (issue i s) := by
  cases i with
  | wrDr v => exact congrArg (answer none) (drWritePush_withCells v c (coverWrite .dr v s))
  | rdDr => exact congrArg (finishRead .dr (drReadValue s)) (drReadPop_withCells c s)
  | step => exact congrArg (answer none) (clockStep_withCells hspe)
  | forceState q => exact congrArg (answer none) (setState_withCells q c s)
  | rdSr | rdUnmapped _ | wrSr _ | wrUnmapped _ _ | pokeSr _ | peek _ => rfl
  | rdCr1 | rdCr2 | wrCr1 _ | wrCr2 _ | reset => cases hi

/-- An operation that spares the cells leaves their contents: replacing them by their own contents changes nothing. -/
theorem cellsOf_issue {i : Instr} (hi : sparesCells i = true) (s : State) : cellsOf (issue i s) = cellsOf s := by
  have hown : issue i s = withCells (cellsOf s) (issue i s) := issue_withCells (c := cellsOf s) hi rfl
  rw [hown, cellsOf_withCells]

/-- The state with other contents in CR1 and CR2. -/
def withControl (c1 c2 : Word) (s : State) : State := { s with cr1 := c1, cr2 := c2 }

/-- The state with other contents in the CRC cells. -/
def withCrc (a b : Word) (s : State) : State := { s with crc0 := a, crc1 := b }

theorem issue_withControl {i : Instr} (hi : sparesCells i = true) {c1 c2 : Word} {s : State}
    (hspe : spe c1 = spe s.cr1) : issue i (withControl c1 c2 s) = withControl c1 c2 (issue i s) := by
  have hkept := cellsOf_issue hi s
  simp only [cellsOf, Cells.mk.injEq] at hkept
  obtain ⟨_, _, hcrc0, hcrc1⟩ := hkept
  calc issue i (withControl c1 c2 s)
      = withCells ⟨c1, c2, s.crc0, s.crc1⟩ (issue i s) := issue_withCells (c := ⟨c1, c2, s.crc0, s.crc1⟩) hi hspe
    _ = withControl c1 c2 (issue i s) := by rw [← hcrc0, ← hcrc1]; rfl

/-- The accesses to CR1 and CR2 spare the CRC cells as well. -/
theorem issue_withCrc {i : Instr} (hi : i ≠ .reset) (a b : Word) (s : State) :
    issue i (withCrc a b s) = withCrc a b (issue i s) := by
  by_cases hspare : sparesCells i = true
  · have hkept := cellsOf_issue hspare s
    simp only [cellsOf, Cells.mk.injEq] at hkept
    obtain ⟨hcr1, hcr2, _, _⟩ := hkept
    calc issue i (withCrc a b s)
        = withCells ⟨s.cr1, s.cr2, a, b⟩ (issue i s) := issue_withCells (c := ⟨s.cr1, s.cr2, a, b⟩) hspare rfl
      _ = withCrc a b (issue i s) := by rw [← hcr1, ← hcr2]; rfl
  · cases i with
    | rdCr1 | rdCr2 | wrCr1 _ | wrCr2 _ => rfl
    | reset => exact absurd rfl hi
    | rdSr | rdDr | rdUnmapped _ | wrSr _ | wrDr _ | wrUnmapped _ _ | step | pokeSr _ | forceState _ | peek _ =>
      exact absurd rfl hspare

/-- An operation other than RESET leaves the CRC cells: replacing their contents by themselves changes nothing. -/
theorem issue_crc {i : Instr} (hi : i ≠ .reset) (s : State) :
    (issue i s).crc0 = s.crc0 ∧ (issue i s).crc1 = s.crc1 := by
  have hown : issue i s = withCrc s.crc0 s.crc1 (issue i s) := issue_withCrc hi s.crc0 s.crc1 s
  rw [hown]
  exact ⟨rfl, rfl⟩

end Sys2Proof.Machine
end

section
/-! The obligations about the block's registers, coverage and power-on values. -/

namespace Sys2Proof.Machine

/-- Settles O33: only an enabled STEP and a draining DR read change a bit of SR, and these change TXE or RXNE. -/
theorem blockWritesOnlyRxneAndTxe : Obligations.BlockWritesOnlyRxneAndTxe := by
  intro i s t hexec hwr hpoke hreset
  obtain rfl := eq_issue_of_exec hexec
  have hcases := fun k => issue_getLsbD_sr_cases (s := s) (k := k) hwr hpoke hreset
  refine ⟨fun k hk => ?_, fun h1 => ?_, fun h0 => ?_⟩
  · by_contra hne
    obtain ⟨_, _, hbit⟩ | ⟨_, hbit, _⟩ := hcases k hne <;> omega
  · obtain ⟨hi, hspe, _⟩ | ⟨_, hbit, _⟩ := hcases 1 h1
    · exact ⟨hi, hspe⟩
    · cases hbit
  · obtain ⟨hi, hspe, hbit | ⟨_, hrx⟩⟩ | ⟨hi, _, hlast, hclear⟩ := hcases 0 h0
    · cases hbit
    · exact .inl ⟨hi, hspe, hrx⟩
    · exact .inr ⟨hi, (Fifo.length_contents s.rx).trans hlast, hclear⟩

/-- Settles O38: the coverage after an operation is that before it with the accessed value or-ed in. -/
theorem coverageRecordsExactlyTheAccesses : Obligations.CoverageRecordsExactlyTheAccesses := by
  refine ⟨fun i s t r k hexec hi => ?_, fun s t r hexec => ?_⟩
  · obtain rfl := eq_issue_of_exec hexec
    refine ⟨?_, ?_⟩
    · rw [issue_wcov_get hi, BitVec.getLsbD_or, Bool.or_eq_true]
    · rw [issue_rcov_get hi, BitVec.getLsbD_or, Bool.or_eq_true]
      by_cases hread : registerRead i = some r
      · obtain ⟨v, hv⟩ := issue_result_of_read hread s
        simp [hread, returned, hv]
      · simp [hread]
  · obtain rfl := eq_issue_of_exec hexec
    cases r <;> exact ⟨rfl, rfl⟩

/-- Settles O39: replacing the contents of the CRC cells commutes with every operation but RESET, which overwrites
them. -/
theorem crcCellsAreUnreachable : Obligations.CrcCellsAreUnreachable := by
  intro i s a b
  by_cases hi : i = .reset
  · subst hi
    exact ⟨rfl, issue .reset s, rfl, fun _ => ⟨rfl, rfl⟩, fun hne => absurd rfl hne⟩
  · refine ⟨?_, issue i s, exec_eq_issue i s, fun h => absurd h hi, fun _ => issue_crc hi s⟩
    simp only [exec_eq_issue, mapNext, if_neg hi]
    exact congrArg Host.Outcome.next (issue_withCrc hi a b s)

/-- Settles O40: the excluded operations are those that do not spare the cells. -/
theorem onlySpeAffectsTheBlock : Obligations.OnlySpeAffectsTheBlock := by
  intro i s c1 c2 hspe hrd1 hrd2 hwr1 hwr2 hreset
  have hspare : sparesCells i = true := by cases i <;> simp_all [sparesCells]
  simp only [exec_eq_issue, mapNext]
  exact congrArg Host.Outcome.next (issue_withControl hspare hspe)

end Sys2Proof.Machine
end

section
/-! The fields of a request word (30_encoding.md R81): decoding kind by kind, the encoder as its inverse, and the reserved
words of R87. -/

namespace Sys2Proof

theorem kind_cases (k : BitVec 3) :
    k = 0b000 ∨ k = 0b001 ∨ k = 0b010 ∨ k = 0b011 ∨ k = 0b100 ∨ k = 0b101 ∨ k = 0b110 ∨ k = 0b111 := by
  revert k; decide

theorem Request.exists_fields (r : Request) : ∃ k sel v, r = ⟨requestWord k sel, v⟩ :=
  ⟨kindField r.word, selField r.word, r.data, by rw [requestWord_fields]⟩

theorem toNat_requestWord_mod (k : BitVec 3) (sel : Word) : (requestWord k sel).toNat % 2 ^ 32 = sel.toNat := by
  rw [← selField_toNat, selField_requestWord]

/-! The tables: the selectors and codes that name nothing, and the selector an item came from. -/

theorem stateOfCode_eq_none {n : Nat} : stateOfCode n = none ↔ 6 ≤ n := by
  match n with
  | 0 | 1 | 2 | 3 | 4 | 5 => simp [stateOfCode]
  | n + 6 => simp [stateOfCode]

theorem peekOfSel_eq_none_iff {n : Nat} : peekOfSel n = none ↔ 91 ≤ n := by
  refine ⟨fun h => ?_, peekOfSel_eq_none⟩
  by_contra hn
  obtain ⟨k, hk, -⟩ := exists_peek_of_lt (Nat.lt_of_not_le hn)
  cases hk.symm.trans h

theorem selOfPeek_of_peekOfSel {n : Nat} {k : PeekItem} (h : peekOfSel n = some k) : selOfPeek k = n := by
  have hn : n < 91 := by
    by_contra hge
    rw [peekOfSel_eq_none (Nat.le_of_not_lt hge)] at h
    cases h
  obtain ⟨k', hk', hsel⟩ := exists_peek_of_lt hn
  cases hk'.symm.trans h
  exact hsel

/-! The decoder on a request word of each remaining kind, for every selector. -/

theorem decode_step (sel v : Word) :
    decode ⟨requestWord 0b010 sel, v⟩ = if sel = 0#32 then .ok .step else .error .stepWithSelector := by
  simp [decode]

theorem decode_reset (sel v : Word) :
    decode ⟨requestWord 0b011 sel, v⟩ = if sel = 0#32 then .ok .reset else .error .resetWithSelector := by
  simp [decode]

theorem decode_pokeSr (sel v : Word) :
    decode ⟨requestWord 0b100 sel, v⟩ = if sel = 0#32 then .ok (.pokeSr v) else .error .pokeSrWithSelector := by
  simp [decode]

theorem decode_forceState_of_some {sel : Word} {q : FsmState} (h : stateOfCode sel.toNat = some q) (v : Word) :
    decode ⟨requestWord 0b101 sel, v⟩ = .ok (.forceState q) := by
  simp [decode, h]

theorem decode_forceState_of_none {sel : Word} (h : stateOfCode sel.toNat = none) (v : Word) :
    decode ⟨requestWord 0b101 sel, v⟩ = .error .reservedStateCode := by
  simp [decode, h]

theorem decode_peek_of_some {sel : Word} {k : PeekItem} (h : peekOfSel sel.toNat = some k) (v : Word) :
    decode ⟨requestWord 0b110 sel, v⟩ = .ok (.peek k) := by
  simp [decode, h]

theorem decode_peek_of_none {sel : Word} (h : peekOfSel sel.toNat = none) (v : Word) :
    decode ⟨requestWord 0b110 sel, v⟩ = .error .reservedPeekSelector := by
  simp [decode, h]

theorem decode_reservedKind (sel v : Word) : decode ⟨requestWord 0b111 sel, v⟩ = .error .reservedKind := by
  simp [decode]

/-! Encode undoes decode. -/

theorem encode_decodeRead (off : Word) : encode (decodeRead off) = ⟨requestWord 0b000 off, 0⟩ := by
  unfold decodeRead
  cases h : offsetReg off with
  | none => rfl
  | some r => rw [offsetReg_eq_some h]; cases r <;> rfl

theorem encode_decodeWrite (off v : Word) : encode (decodeWrite off v) = ⟨requestWord 0b001 off, v⟩ := by
  unfold decodeWrite
  cases h : offsetReg off with
  | none => rfl
  | some r => rw [offsetReg_eq_some h]; cases r <;> rfl

theorem wellFormed_decodeRead (off : Word) : (decodeRead off).wellFormed = true := by
  unfold decodeRead
  cases h : offsetReg off with
  | none => simp [Instr.wellFormed, offsetReg_eq_none.mp h]
  | some r => cases r <;> rfl

theorem wellFormed_decodeWrite (off v : Word) : (decodeWrite off v).wellFormed = true := by
  unfold decodeWrite
  cases h : offsetReg off with
  | none => simp [Instr.wellFormed, offsetReg_eq_none.mp h]
  | some r => cases r <;> rfl

/-- What a request decodes to encodes back to the request, with the data operand zeroed where the kind has none. -/
theorem encode_of_decode {r : Request} {i : Instr} (h : decode r = .ok i) :
    i.wellFormed = true ∧ encode i = ⟨r.word, if hasData r.word then r.data else 0⟩ := by
  obtain ⟨k, sel, v, rfl⟩ := r.exists_fields
  obtain rfl | rfl | rfl | rfl | rfl | rfl | rfl | rfl := kind_cases k
  · rw [decode_read] at h
    cases h
    exact ⟨wellFormed_decodeRead sel, by simp [encode_decodeRead, hasData]⟩
  · rw [decode_write] at h
    cases h
    exact ⟨wellFormed_decodeWrite sel v, by simp [encode_decodeWrite, hasData]⟩
  · rw [decode_step] at h
    split at h <;> cases h
    next hsel => simp [Instr.wellFormed, encode, hasData, hsel]
  · rw [decode_reset] at h
    split at h <;> cases h
    next hsel => simp [Instr.wellFormed, encode, hasData, hsel]
  · rw [decode_pokeSr] at h
    split at h <;> cases h
    next hsel => simp [Instr.wellFormed, encode, hasData, hsel]
  · cases hq : stateOfCode sel.toNat with
    | none => rw [decode_forceState_of_none hq] at h; cases h
    | some q =>
      rw [decode_forceState_of_some hq] at h
      cases h
      have hsel : BitVec.ofNat 32 (stateCode q) = sel := by rw [← stateOfCode_eq_some hq, BitVec.ofNat_toNat]; simp
      simp [Instr.wellFormed, encode, hasData, hsel]
  · cases hk : peekOfSel sel.toNat with
    | none => rw [decode_peek_of_none hk] at h; cases h
    | some item =>
      rw [decode_peek_of_some hk] at h
      cases h
      have hsel : BitVec.ofNat 32 (selOfPeek item) = sel := by rw [selOfPeek_of_peekOfSel hk, BitVec.ofNat_toNat]; simp
      simp [Instr.wellFormed, encode, hasData, hsel]
  · rw [decode_reservedKind] at h; cases h

namespace Machine

theorem reservedWord_requestWord (k : BitVec 3) (sel : Word) : ReservedWord (requestWord k sel) ↔
    k = 0b111 ∨ (k = 0b101 ∧ 6 ≤ sel.toNat) ∨ (k = 0b110 ∧ 91 ≤ sel.toNat) ∨
      ((k = 0b010 ∨ k = 0b011 ∨ k = 0b100) ∧ sel ≠ 0#32) := by
  simp only [ReservedWord, ← kindField_toNat, toNat_requestWord_mod, kindField_requestWord, ← BitVec.toNat_inj, ne_eq]
  rfl

theorem reservedWord_iff_refused (r : Request) : ReservedWord r.word ↔ ∃ e, decode r = .error e := by
  obtain ⟨k, sel, v, rfl⟩ := r.exists_fields
  rw [reservedWord_requestWord]
  obtain rfl | rfl | rfl | rfl | rfl | rfl | rfl | rfl := kind_cases k
  · rw [decode_read]; simp
  · rw [decode_write]; simp
  · rw [decode_step]; by_cases hsel : sel = 0#32 <;> simp [hsel]
  · rw [decode_reset]; by_cases hsel : sel = 0#32 <;> simp [hsel]
  · rw [decode_pokeSr]; by_cases hsel : sel = 0#32 <;> simp [hsel]
  · cases hq : stateOfCode sel.toNat with
    | none => rw [decode_forceState_of_none hq]; simp [stateOfCode_eq_none.mp hq]
    | some q => rw [decode_forceState_of_some hq]; simp [← stateOfCode_eq_none, hq]
  · cases hk : peekOfSel sel.toNat with
    | none => rw [decode_peek_of_none hk]; simp [peekOfSel_eq_none_iff.mp hk]
    | some item => rw [decode_peek_of_some hk]; simp [← peekOfSel_eq_none_iff, hk]
  · rw [decode_reservedKind]; simp

theorem step_of_refused {s : State} {r : Request} {rest : List Request} {e : Reject} (hreq : s.requests = r :: rest)
    (hdec : decode r = .error e) : step s = .refused (.reservedRequest e) := by
  simp [step, takeRequest_cons hreq, hdec]

end Machine
end Sys2Proof
end

section
/-! The opcode table (30_encoding.md R82, R83, R88): its rows as kinds and selectors, and the row it finds for an encoded
instruction and for a reserved word. -/

namespace Sys2Proof.Machine

/-- The row that fixes the whole word. -/
def wordRow (m : String) (k : BitVec 3) (sel : Word) : OpcodeRow := ⟨m, requestWord k sel, 0x7FFFFFFFF#35, none⟩

/-- The row that fixes `kind` alone and bounds the selector where a bound is given. -/
def kindRow (m : String) (k : BitVec 3) (maxSel : Option Nat) : OpcodeRow :=
  ⟨m, requestWord k 0, 0x700000000#35, maxSel⟩

@[simp] theorem wordRow_mnemonic (m : String) (k : BitVec 3) (sel : Word) : (wordRow m k sel).mnemonic = m := rfl

@[simp] theorem kindRow_mnemonic (m : String) (k : BitVec 3) (maxSel : Option Nat) :
    (kindRow m k maxSel).mnemonic = m := rfl

theorem opcodeTable_eq_rows : opcodeTable =
    [ wordRow "RD_CR1" 0b000 0x00#32, wordRow "RD_CR2" 0b000 0x04#32, wordRow "RD_SR" 0b000 0x08#32,
      wordRow "RD_DR" 0b000 0x0C#32, kindRow "RD_UNMAPPED" 0b000 none,
      wordRow "WR_CR1" 0b001 0x00#32, wordRow "WR_CR2" 0b001 0x04#32, wordRow "WR_SR" 0b001 0x08#32,
      wordRow "WR_DR" 0b001 0x0C#32, kindRow "WR_UNMAPPED" 0b001 none,
      wordRow "STEP" 0b010 0#32, wordRow "RESET" 0b011 0#32, wordRow "POKE_SR" 0b100 0#32,
      kindRow "FORCE_STATE" 0b101 (some 5), kindRow "PEEK" 0b110 (some 90) ] := rfl

theorem requestWord_and_kindMask (k : BitVec 3) (sel : Word) :
    requestWord k sel &&& 0x700000000#35 = requestWord k 0 := by
  have hmask : 0x700000000#35 = BitVec.allOnes 3 ++ 0#32 := by decide
  rw [hmask, requestWord, BitVec.and_append, BitVec.and_allOnes, BitVec.and_zero]
  rfl

@[simp] theorem wordRow_accepts (m : String) (k k' : BitVec 3) (sel sel' : Word) :
    (wordRow m k' sel').accepts (requestWord k sel) = decide (k = k' ∧ sel = sel') := by
  have hmask : requestWord k sel &&& 0x7FFFFFFFF#35 = requestWord k sel := BitVec.and_allOnes
  simp [OpcodeRow.accepts, wordRow, hmask, beq_eq_decide, requestWord_inj]

@[simp] theorem kindRow_accepts (m : String) (k k' : BitVec 3) (sel : Word) (maxSel : Option Nat) :
    (kindRow m k' maxSel).accepts (requestWord k sel) =
      (decide (k = k') && maxSel.all fun n => decide (sel.toNat ≤ n)) := by
  cases maxSel <;>
    simp only [OpcodeRow.accepts, kindRow, requestWord_and_kindMask, beq_eq_decide, requestWord_inj, and_true,
      toNat_requestWord_mod, Option.all]

theorem tableLookup_of_reserved {w : ReqWord} (h : ReservedWord w) : tableLookup w = none := by
  rw [← requestWord_fields w] at h ⊢
  rw [reservedWord_requestWord] at h
  obtain hk | ⟨hk, hsel⟩ | ⟨hk, hsel⟩ | ⟨hk | hk | hk, hsel⟩ := h
  · simp [tableLookup, opcodeTable_eq_rows, hk]
  · simp [tableLookup, opcodeTable_eq_rows, hk]; omega
  · simp [tableLookup, opcodeTable_eq_rows, hk]; omega
  · simp [tableLookup, opcodeTable_eq_rows, hk, hsel]
  · simp [tableLookup, opcodeTable_eq_rows, hk, hsel]
  · simp [tableLookup, opcodeTable_eq_rows, hk, hsel]

/-- At an unmapped offset the rows of the mapped ones are passed over. -/
theorem tableLookup_unmapped {off : Word} (h : mappedOffset off = false) :
    tableLookup (requestWord 0b000 off) = some "RD_UNMAPPED" ∧
    tableLookup (requestWord 0b001 off) = some "WR_UNMAPPED" := by
  simp only [mappedOffset, Bool.or_eq_false_iff, beq_eq_false_iff_ne] at h
  obtain ⟨⟨⟨hcr1, hcr2⟩, hsr⟩, hdr⟩ := h
  constructor <;> simp [tableLookup, opcodeTable_eq_rows, hcr1, hcr2, hsr, hdr]

theorem tableLookup_peek {sel : Word} (h : sel.toNat ≤ 90) : tableLookup (requestWord 0b110 sel) = some "PEEK" := by
  simp [tableLookup, opcodeTable_eq_rows, h]

theorem tableLookup_encode {i : Instr} (h : i.wellFormed = true) :
    tableLookup (encode i).word = some (mnemonic i) := by
  cases i with
  | rdUnmapped off => exact (tableLookup_unmapped (by simpa [Instr.wellFormed] using h)).1
  | wrUnmapped off v => exact (tableLookup_unmapped (by simpa [Instr.wellFormed] using h)).2
  | forceState q => cases q <;> rfl
  | peek k =>
    have hk := selOfPeek_lt k
    exact tableLookup_peek (by rw [BitVec.toNat_ofNat]; omega)
  | rdCr1 | rdCr2 | rdSr | rdDr | wrCr1 _ | wrCr2 _ | wrSr _ | wrDr _ | step | reset | pokeSr _ =>
    simp [tableLookup, opcodeTable_eq_rows, encode, regOffset, mnemonic]

end Sys2Proof.Machine
end

section
/-! The values PEEK returns as numbers (30_encoding.md R85). -/

namespace Sys2Proof.Machine

theorem toNat_zext (b : Byte) : (zext b).toNat = b.toNat := BitVec.toNat_setWidth_of_le (by decide)

theorem visitedCount_le (s : State) : visitedCount s ≤ 6 := List.length_filter_le _ allStates

theorem visitedCount_eq (s : State) :
    visitedCount s = (allStates.filter fun q => s.visits.get q ≠ 0).length :=
  congrArg (fun p => (allStates.filter p).length) (funext fun q => by simp [bne, beq_eq_decide])

/-- The codes of R33, written out, are `stateCode`. -/
theorem stateCode_of_mem {p : FsmState × Nat}
    (h : p ∈ [(.idle, 0), (.txActive, 1), (.rxActive, 2), (.txrxActive, 3), (.error, 4), (.recovery, 5)]) :
    p.2 = stateCode p.1 := by
  revert h p; decide

/-- A selector decodes to the item whose selector it is, so PEEK returns that item's value. -/
theorem peekValue_of_sel {n : Nat} {item k : PeekItem} (h : peekOfSel n = some item) (s : State)
    (hn : n = selOfPeek k) : peekValue s item = peekValue s k := by
  subst hn
  cases (peekOfSel_selOfPeek k).symm.trans h
  rfl

/-- An item whose value is a number that fits 32 bits is returned as that number. -/
theorem toNat_peekValue_of_sel {n m : Nat} {item k : PeekItem} {s : State} (h : peekOfSel n = some item)
    (hn : n = selOfPeek k) (hk : peekValue s k = BitVec.ofNat 32 m) (hm : m < 2 ^ 32) :
    (peekValue s item).toNat = m := by
  rw [peekValue_of_sel h s hn, hk, BitVec.toNat_ofNat, Nat.mod_eq_of_lt hm]

end Sys2Proof.Machine
end

section
/-! The pseudo-operations `setbits` and `clrbits` (30_encoding.md R91): a write of a cell after a read of it. -/

namespace Sys2Proof.Machine

theorem issue_wrCr1_issue_rdCr1 (v : Word) (s : State) : issue (.wrCr1 v) (issue .rdCr1 s) =
    { s with
      cr1 := v, rcov := { s.rcov with cr1 := s.rcov.cr1 ||| s.cr1 },
      wcov := { s.wcov with cr1 := s.wcov.cr1 ||| v }, result := none } := by
  rw [issue_rdCr1_eq, issue_wrCr1_eq]

theorem issue_wrCr2_issue_rdCr2 (v : Word) (s : State) : issue (.wrCr2 v) (issue .rdCr2 s) =
    { s with
      cr2 := v, rcov := { s.rcov with cr2 := s.rcov.cr2 ||| s.cr2 },
      wcov := { s.wcov with cr2 := s.wcov.cr2 ||| v }, result := none } := by
  rw [issue_rdCr2_eq, issue_wrCr2_eq]

theorem issue_wrSr_issue_rdSr (v : Word) (s : State) : issue (.wrSr v) (issue .rdSr s) =
    { s with
      sr := v, rcov := { s.rcov with sr := s.rcov.sr ||| s.sr },
      wcov := { s.wcov with sr := s.wcov.sr ||| v }, result := none } := by
  rw [issue_rdSr_eq, issue_wrSr_eq]

theorem runLine_setbits (r : Asm.CellReg) (m : Word) (s : State) : Asm.runLine (.setbits r m) s =
    issue (Asm.writeOf r (returned (issue (Asm.readOf r) s) ||| m)) (issue (Asm.readOf r) s) := rfl

theorem runLine_clrbits (r : Asm.CellReg) (m : Word) (s : State) : Asm.runLine (.clrbits r m) s =
    issue (Asm.writeOf r (returned (issue (Asm.readOf r) s) &&& ~~~m)) (issue (Asm.readOf r) s) := rfl

end Sys2Proof.Machine
end

section
/-! The obligations about the encoding, the reserved words, PEEK's selectors and the text of R90 and R91. -/

namespace Sys2Proof.Machine

/-- Settles O3: `decode_encode` goes through the rows of the opcode table. -/
theorem decodeOfEncodeReturnsTheInstruction : Obligations.DecodeOfEncodeReturnsTheInstruction :=
  fun _ hwf => decode_encode hwf

/-- Settles O4: encoding gives the whole request back, but for a data operand that its kind does not carry. -/
theorem decodedInstructionsEncodeBack : Obligations.DecodedInstructionsEncodeBack := by
  intro r i hdec
  obtain ⟨hwf, henc⟩ := encode_of_decode hdec
  exact ⟨hwf, by rw [henc], fun hdata => by rw [henc, if_pos hdata]⟩

/-- Settles O5: an accepted word is the encoding of its instruction, for which the table finds the instruction's own row;
a refused word is reserved, and no row accepts it. -/
theorem decodeAgreesWithTheOpcodeTable : Obligations.DecodeAgreesWithTheOpcodeTable := by
  intro r
  cases hdec : decode r with
  | ok i =>
    obtain ⟨hwf, henc⟩ := encode_of_decode hdec
    have hword : (encode i).word = r.word := by rw [henc]
    rw [← hword]
    exact (tableLookup_encode hwf).symm
  | error e => exact (tableLookup_of_reserved ((reservedWord_iff_refused r).mpr ⟨e, hdec⟩)).symm

/-- Settles O6: kind by kind. -/
theorem reservedWordsAreExactlyTheRefused : Obligations.ReservedWordsAreExactlyTheRefused :=
  reservedWord_iff_refused

/-- Settles O7: the decoder refuses exactly the reserved words, and what it accepts completes. -/
theorem onlyReservedRequestsStopTheMachine : Obligations.OnlyReservedRequestsStopTheMachine := by
  intro s r rest hreq
  rw [reservedWord_iff_refused]
  cases hdec : decode r with
  | error e => exact ⟨fun _ => ⟨e, step_of_refused hreq hdec⟩, fun hok => absurd ⟨e, rfl⟩ hok⟩
  | ok i =>
    exact ⟨fun ⟨_, hrefused⟩ => (nomatch hrefused), fun _ => ⟨_, (step_of_decode hreq hdec).trans (exec_eq_issue i _)⟩⟩

/-- Settles O20: the item a selector below 91 decodes to is, clause by clause, the one whose selector the table gives. -/
theorem peekReturnsTheSelectedItem : Obligations.PeekReturnsTheSelectedItem := by
  refine ⟨fun k d hk => ⟨_, decode_peek_of_none (peekOfSel_eq_none hk) d⟩, fun s k d hk => ?_⟩
  obtain ⟨item, hitem, -⟩ := exists_peek_of_lt (Nat.lt_succ_of_le hk)
  have hsel : (BitVec.ofNat 32 k).toNat = k := Nat.mod_eq_of_lt (by omega)
  have hval : ∀ j, k = selOfPeek j → peekValue s item = peekValue s j := fun _ => peekValue_of_sel hitem s
  refine ⟨item, peekValue s item, decode_peek_of_some (hsel.symm ▸ hitem) d, rfl, hval .cycle, fun p hp => ?_,
    fun h => toNat_peekValue_of_sel (k := .txLevel) hitem h rfl (by omega),
    fun h => toNat_peekValue_of_sel (k := .rxLevel) hitem h rfl (by omega), hval .txCount, hval .rxCount,
    fun h => toNat_peekValue_of_sel (k := .txHead) hitem h rfl (by omega),
    fun h => toNat_peekValue_of_sel (k := .rxHead) hitem h rfl (by omega),
    hval (.wcov .cr1), hval (.wcov .cr2), hval (.wcov .sr), hval (.wcov .dr),
    hval (.rcov .cr1), hval (.rcov .cr2), hval (.rcov .sr), hval (.rcov .dr), fun n h => ?txBuf, fun n h => ?rxBuf,
    fun h => ?visited⟩
  · rw [stateCode_of_mem hp]
    refine ⟨fun h hs => ?state, hval (.visits p.1), fun q hq => ?matrix⟩
    case state =>
      have hcode := stateCode_lt p.1
      exact toNat_peekValue_of_sel (k := .state) hitem h (by rw [← hs]; rfl) (by omega)
    case matrix => rw [stateCode_of_mem hq]; exact hval (.matrix p.1 q.1)
  case txBuf => rw [hval (.txBuf n) h]; exact toNat_zext _
  case rxBuf => rw [hval (.rxBuf n) h]; exact toNat_zext _
  case visited =>
    have hcount := visitedCount_le s
    rw [← visitedCount_eq]
    exact toNat_peekValue_of_sel (k := .visited) hitem h rfl (by omega)

/-- Settles O1: each word is its kind and selector; a word from 0x700000000 on has kind 0b111. -/
theorem exampleRequestWordsDecode : Obligations.ExampleRequestWordsDecode := by
  refine ⟨decode_read 0x00, decode_read 0x0C, decode_write 0x00 0x44, decode_write 0x0C 0xA5, decode_write 0x10 0x01,
    decode_step 0, decode_reset 0, decode_pokeSr 0 0x12, decode_forceState .error, decode_peek .cycle,
    decode_peek .visited, fun w d hw => ?_⟩
  have hkind : kindField w = 0b111 := BitVec.eq_of_toNat_eq (by rw [kindField_toNat]; simp; omega)
  rw [← requestWord_fields w, hkind]
  exact decode_reservedKind (selField w) d

/-- Settles O2: the eleven texts are fixed, so the assembler and the encoder are run on them. -/
theorem exampleTextsAssembleToTheirWords : Obligations.ExampleTextsAssembleToTheirWords := by
  unfold Obligations.ExampleTextsAssembleToTheirWords
  decide

/-- Settles O54: `setbits` and `clrbits` are a read and a write of the cell, the lists are issued in order. -/
theorem pseudoOperationsExpandAsStated : Obligations.PseudoOperationsExpandAsStated := by
  refine ⟨fun s m => ⟨?_, ?_, ?_, ?_, ?_, ?_⟩, fun n s => ?_, fun vs s => ?_⟩
  · rw [runLine_setbits]; exact issue_wrCr1_issue_rdCr1 (s.cr1 ||| m) s
  · rw [runLine_clrbits]; exact issue_wrCr1_issue_rdCr1 (s.cr1 &&& ~~~m) s
  · rw [runLine_setbits]; exact issue_wrCr2_issue_rdCr2 (s.cr2 ||| m) s
  · rw [runLine_clrbits]; exact issue_wrCr2_issue_rdCr2 (s.cr2 &&& ~~~m) s
  · rw [runLine_setbits]; exact issue_wrSr_issue_rdSr (s.sr ||| m) s
  · rw [runLine_clrbits]; exact issue_wrSr_issue_rdSr (s.sr &&& ~~~m) s
  · exact execAll_eq_issueAll (List.replicate n .step) s
  · exact execAll_eq_issueAll (vs.map .wrDr) s

end Sys2Proof.Machine
end

section
/-! The mapped offsets as numbers (20_memory.md R60, R62). -/

namespace Sys2Proof

theorem mappedOffset_eq_false {off : Word} : mappedOffset off = false ↔
    off.toNat ≠ 0 ∧ off.toNat ≠ 4 ∧ off.toNat ≠ 8 ∧ off.toNat ≠ 12 := by
  simp [mappedOffset, ← BitVec.toNat_inj, and_assoc]

end Sys2Proof
end

section
/-! The bytes waiting in a FIFO, after a push and after a pop (10_state.md R31; 41_clock_step.md R130, R131). -/

namespace Sys2Proof.Machine

theorem Fifo.getElem_contents (f : Fifo) {k : Nat} (h : k < f.contents.length) :
    f.contents[k] = f.buf[(f.head.val + k) % 16]'(Nat.mod_lt _ (by decide)) := by
  simp [Fifo.contents]

/-- A push writes the one entry behind the occupied ones. -/
theorem Fifo.push_buf_of_ne {f : Fifo} (h : f.level.val < 16) (b : Byte) {n : Fin 16}
    (hn : n.val ≠ (f.head.val + f.level.val) % 16) : (f.push b).buf[n] = f.buf[n] := by
  simp only [Fifo.push_buf h, Fin.getElem_fin]
  exact Vector.getElem_set_ne _ n.isLt hn.symm

theorem Fifo.contents_push {f : Fifo} (h : f.level.val < 16) (b : Byte) : (f.push b).contents = f.contents ++ [b] := by
  apply List.ext_getElem (by simp [Fifo.push_level h])
  intro k hk _
  have hle : k ≤ f.level.val := by simpa [Fifo.push_level h, Nat.lt_succ_iff] using hk
  simp only [Fifo.getElem_contents, Fifo.push_buf h, Fifo.push_head, List.getElem_append, Fifo.length_contents]
  obtain hlt | rfl := hle.lt_or_eq
  · have hne : (f.head.val + f.level.val) % 16 ≠ (f.head.val + k) % 16 := by omega
    rw [dif_pos hlt, Vector.getElem_set_ne _ _ hne]
  · simp

theorem Fifo.contents_eq_front_cons_pop {f : Fifo} (h : 0 < f.level.val) : f.contents = f.front :: f.pop.contents := by
  apply List.ext_getElem (by simp [Fifo.pop_level, Nat.sub_add_cancel h])
  intro k _ _
  cases k with
  | zero => simp [Fifo.getElem_contents, Fifo.front, Nat.mod_eq_of_lt f.head.isLt]
  | succ k =>
    have hidx : (f.head.val + (k + 1)) % 16 = ((f.head.val + 1) % 16 + k) % 16 := by omega
    simp only [Fifo.getElem_contents, List.getElem_cons_succ, Fifo.pop_buf, Fifo.pop_head h, hidx]

end Sys2Proof.Machine
end

section
/-! The accesses to the data register, one equation for each case (40_register_access.md R104, R110). -/

namespace Sys2Proof.Machine

theorem issue_wrDr_of_lt {s : State} (h : s.tx.level.val < 16) (v : Word) : issue (.wrDr v) s =
    { s with
      tx := s.tx.push (lowByte v)
      txcount := s.txcount + 1
      wcov := { s.wcov with dr := s.wcov.dr ||| v }
      result := none } :=
  congrArg (answer none) (if_pos h)

theorem issue_wrDr_of_full {s : State} (h : ¬ s.tx.level.val < 16) (v : Word) : issue (.wrDr v) s =
    { s with wcov := { s.wcov with dr := s.wcov.dr ||| v }, result := none } :=
  congrArg (answer none) (if_neg h)

theorem drReadPop_of_byte {s : State} (h : 0 < s.rx.level.val) : drReadPop s =
    { s with
      rx := s.rx.pop
      rxcount := s.rxcount + 1
      sr := if s.rx.pop.level.val = 0 then withRxne false s.sr else s.sr } := by
  have hpop : drReadPop s = clearRxneIfDrained (countRx (rxPop s)) := if_pos h
  by_cases hdrained : s.rx.pop.level.val = 0
  · rw [hpop, if_pos hdrained]; exact if_pos hdrained
  · rw [hpop, if_neg hdrained]; exact if_neg hdrained

theorem issue_rdDr_of_empty {s : State} (h : s.rx.level.val = 0) : issue .rdDr s = { s with result := some 0 } := by
  have hnone : ¬ 0 < s.rx.level.val := by omega
  have hissue : issue .rdDr s = finishRead .dr (drReadValue s) (drReadPop s) := rfl
  have hvalue : drReadValue s = 0 := if_neg hnone
  have hpop : drReadPop s = s := if_neg hnone
  simp [hissue, hvalue, hpop, finishRead, coverRead, answer, PerReg.get, PerReg.set]

theorem issue_rdDr_of_byte {s : State} (h : 0 < s.rx.level.val) : issue .rdDr s =
    { s with
      rx := s.rx.pop
      rxcount := s.rxcount + 1
      sr := if s.rx.pop.level.val = 0 then withRxne false s.sr else s.sr
      rcov := { s.rcov with dr := s.rcov.dr ||| zext s.rx.front }
      result := some (zext s.rx.front) } := by
  have hvalue : drReadValue s = zext s.rx.front := if_pos h
  have hissue : issue .rdDr s = finishRead .dr (drReadValue s) (drReadPop s) := rfl
  rw [hissue, hvalue, drReadPop_of_byte h]
  rfl

end Sys2Proof.Machine
end

section
/-! The obligations about the register accesses. -/

namespace Sys2Proof.Machine

/-- Settles O12: below 16 bytes the write is a push of lane 0 and a count, at 16 it is its coverage alone. -/
theorem dataWriteQueuesOrDropsTheLowByte : Obligations.DataWriteQueuesOrDropsTheLowByte := by
  refine fun s v => ⟨decode_write (regOffset .dr) v, _, exec_eq_issue (.wrDr v) s, ?_⟩
  rw [Fifo.length_contents]
  by_cases h : s.tx.level.val < 16
  · rw [issue_wrDr_of_lt h]
    exact ⟨fun _ => ⟨Fifo.contents_push h _, Fifo.push_head _ _, fun _ => Fifo.push_buf_of_ne h _,
      BitVec.toNat_add _ _⟩, fun hfull => absurd h (by omega), fun _ => BitVec.getLsbD_or, rfl⟩
  · rw [issue_wrDr_of_full h]
    exact ⟨fun hlt => absurd hlt h, fun _ => ⟨rfl, rfl⟩, fun _ => BitVec.getLsbD_or, rfl⟩

/-- Settles O15: with a byte waiting the read pops the front, and the pop leaves none exactly when it was the last. -/
theorem dataReadPopsTheOldestByte : Obligations.DataReadPopsTheOldestByte := by
  refine fun s d => ⟨decode_read (regOffset .dr) d, _, exec_eq_issue .rdDr s, fun hempty => ?_,
    fun b rest hbytes => ?_⟩
  · exact issue_rdDr_of_empty (Fifo.contents_eq_nil.mp hempty)
  · have h : 0 < s.rx.level.val := by simp [← Fifo.length_contents, hbytes]
    obtain ⟨rfl, rfl⟩ := List.cons.inj ((Fifo.contents_eq_front_cons_pop h).symm.trans hbytes)
    rw [issue_rdDr_of_byte h]
    refine ⟨rfl, rfl, Fifo.pop_buf _, Fifo.pop_head h, BitVec.toNat_add _ _, fun k => ?_,
      fun _ => BitVec.getLsbD_or, rfl⟩
    by_cases hlast : s.rx.pop.level.val = 0
    · simp [Fifo.contents_eq_nil, hlast, getLsbD_withRxne]
    · simp [Fifo.contents_eq_nil, hlast]

/-- Settles O11: each write is its cell and its coverage. -/
theorem controlAndStatusWritesStoreVerbatim : Obligations.ControlAndStatusWritesStoreVerbatim :=
  fun s v =>
    ⟨⟨decode_write (regOffset .cr1) v, decode_write (regOffset .cr2) v, decode_write (regOffset .sr) v⟩,
      ⟨_, issue_wrCr1_eq v s ▸ exec_eq_issue (.wrCr1 v) s, rfl, fun _ => BitVec.getLsbD_or, rfl⟩,
      ⟨_, issue_wrCr2_eq v s ▸ exec_eq_issue (.wrCr2 v) s, rfl, fun _ => BitVec.getLsbD_or, rfl⟩,
      ⟨_, issue_wrSr_eq v s ▸ exec_eq_issue (.wrSr v) s, rfl, fun _ => BitVec.getLsbD_or, rfl⟩⟩

/-- Settles O14: each read is the cell's value and its coverage. -/
theorem controlAndStatusReadsReturnTheCell : Obligations.ControlAndStatusReadsReturnTheCell :=
  fun s d =>
    ⟨⟨decode_read (regOffset .cr1) d, decode_read (regOffset .cr2) d, decode_read (regOffset .sr) d⟩,
      ⟨_, issue_rdCr1_eq s ▸ exec_eq_issue .rdCr1 s, rfl, fun _ => BitVec.getLsbD_or, rfl⟩,
      ⟨_, issue_rdCr2_eq s ▸ exec_eq_issue .rdCr2 s, rfl, fun _ => BitVec.getLsbD_or, rfl⟩,
      ⟨_, issue_rdSr_eq s ▸ exec_eq_issue .rdSr s, rfl, fun _ => BitVec.getLsbD_or, rfl⟩⟩

/-- Settles O13: an offset with none of the four values is unmapped, and the two operations end with their answer. -/
theorem unmappedAccessesChangeNothing : Obligations.UnmappedAccessesChangeNothing := by
  refine ⟨fun off v d h0 h4 h8 h12 => ?_, fun _ _ _ => ⟨rfl, rfl⟩⟩
  have hoff : mappedOffset off = false := mappedOffset_eq_false.mpr ⟨h0, h4, h8, h12⟩
  exact ⟨(decode_write off v).trans (congrArg _ (decodeWrite_of_unmapped hoff v)),
    (decode_read off d).trans (congrArg _ (decodeRead_of_unmapped hoff))⟩

end Sys2Proof.Machine
end

section
/-! The next-state table (41_clock_step.md R148), row by row, in the model's names of the bits. -/

namespace Sys2Proof.Machine

theorem err_eq_zero (v : Word) :
    err v = 0b000#3 ↔ v.getLsbD 4 = false ∧ v.getLsbD 5 = false ∧ v.getLsbD 6 = false := by
  refine ⟨fun h => ?_, fun ⟨h4, h5, h6⟩ => BitVec.eq_of_getLsbD_eq fun i hi => ?_⟩
  · have hbit : ∀ i, i < 3 → v.getLsbD (4 + i) = false := fun i hi => by
      simpa [err, hi] using congrArg (BitVec.getLsbD · i) h
    exact ⟨hbit 0 (by decide), hbit 1 (by decide), hbit 2 (by decide)⟩
  · simp only [err, BitVec.getLsbD_extractLsb']
    match i, hi with
    | 0, _ => exact h4
    | 1, _ => exact h5
    | 2, _ => exact h6

theorem tableNext_disabled {s : State} (h : spe s.cr1 = false) : tableNext s = .idle := if_pos h

section
variable {s : State} (hspe : spe s.cr1 = true)
include hspe

theorem not_spe_eq_false : ¬ s.cr1.getLsbD 6 = false := by
  simpa [spe] using hspe

theorem tableNext_idle (hs : s.state = .idle) :
    tableNext s = if 0 < s.tx.level.val ∨ txe s.sr = true then .txActive else .idle := by
  simp only [tableNext, if_neg (not_spe_eq_false hspe), hs]; rfl

theorem tableNext_txActive (hs : s.state = .txActive) :
    tableNext s = if txLevelAfter s = 0 ∧ txe s.sr = false then
      if 0 < rxLevelAfter s then .rxActive else .idle else .txActive := by
  simp only [tableNext, if_neg (not_spe_eq_false hspe), hs, txe, ← and_assoc]
  by_cases hdone : txLevelAfter s = 0 ∧ s.sr.getLsbD 1 = false
  · by_cases hrx : 0 < rxLevelAfter s
    · simp only [hdone, hrx, and_self, if_true]
    · simp only [hdone, Nat.eq_zero_of_not_pos hrx, gt_iff_lt, lt_self_iff_false, and_self, and_false, if_true,
        if_false]
  · simp only [hdone, false_and, if_false]

theorem tableNext_rxActive (hs : s.state = .rxActive) :
    tableNext s = if 0 < s.rx.level.val then .rxActive else .idle := by
  simp only [tableNext, if_neg (not_spe_eq_false hspe), hs]

theorem tableNext_txrxActive (hs : s.state = .txrxActive) : tableNext s = .txrxActive := by
  simp only [tableNext, if_neg (not_spe_eq_false hspe), hs]

theorem tableNext_error (hs : s.state = .error) :
    tableNext s = if err s.sr = 0b000#3 then .recovery else .error := by
  simp only [tableNext, if_neg (not_spe_eq_false hspe), hs, err_eq_zero]

theorem tableNext_recovery (hs : s.state = .recovery) :
    tableNext s = if (s.cycle + 1).toNat % 10 = 0 then .idle else .recovery := by
  simp only [tableNext, if_neg (not_spe_eq_false hspe), hs, BitVec.toNat_add]; rfl

end

/-- The table enters no state but IDLE, TX_ACTIVE and RX_ACTIVE, and RECOVERY from ERROR (R151). -/
theorem tableNext_cases (s : State) :
    tableNext s = s.state ∨ tableNext s = .idle ∨ tableNext s = .txActive ∨ tableNext s = .rxActive ∨
      (s.state = .error ∧ tableNext s = .recovery) := by
  cases hspe : spe s.cr1 with
  | false => simp [tableNext_disabled hspe]
  | true =>
    cases hs : s.state with
    | idle => rw [tableNext_idle hspe hs]; split <;> simp
    | txActive => rw [tableNext_txActive hspe hs]; split_ifs <;> simp
    | rxActive => rw [tableNext_rxActive hspe hs]; split <;> simp
    | txrxActive => simp [tableNext_txrxActive hspe hs]
    | error => rw [tableNext_error hspe hs]; split <;> simp
    | recovery => rw [tableNext_recovery hspe hs]; split <;> simp

end Sys2Proof.Machine
end

section
/-! STEP in one equation (41_clock_step.md R134 to R147): the cycle count and the byte the TX_ACTIVE arm moves, then the
tracked change to the table's next state, then SR. -/

namespace Sys2Proof.Machine

/-! What SetState does to the tracker's fields, the self-transition included (R133). -/

theorem setState_trace_eq (q : FsmState) (s : State) : (setState q s).trace = s.trace ++ changeEvents s.state q := by
  rw [setState_trace, changeEvents]
  by_cases h : q = s.state
  · simp [h]
  · simp [h, Ne.symm h]

theorem tracked_setState (q : FsmState) (s : State) : Tracked s.state q s (setState q s) := by
  by_cases h : q = s.state
  · rw [setState_self s h]; simp [Tracked, h]
  · exact ⟨fun i j => by simp [matrixEntry_setState h, Ne.symm h], fun i => by simp [visits_setState h, Ne.symm h]⟩

/-- The tracker's record speaks of the matrices and the visit counters alone. -/
theorem tracked_congr {p q : FsmState} {s s' t t' : State} (hsm : s'.matrix = s.matrix) (hsv : s'.visits = s.visits)
    (htm : t'.matrix = t.matrix) (htv : t'.visits = t.visits) : Tracked p q s' t' ↔ Tracked p q s t := by
  simp only [Tracked, matrixEntry, hsm, hsv, htm, htv]

theorem setState_setSr (q : FsmState) (v : Word) (s : State) : setState q (setSr v s) = setSr v (setState q s) := by
  obtain ⟨hq, heq⟩ | ⟨hq, heq⟩ := setState_cases q s
  · rw [heq, setState_self (setSr v s) hq]
  · rw [heq, setState_of_ne (setSr v s) hq]; rfl

/-- An arm that may leave for `q` and otherwise stays is one tracked change. -/
theorem ite_setState {s : State} {p : FsmState} (hs : s.state = p) (c : Prop) [Decidable c] (q : FsmState) :
    (if c then setState q s else s) = setState (if c then q else p) s := by
  split
  · rfl
  · exact (setState_self s hs.symm).symm

/-! The state in which a STEP makes its tracked change. -/

/-- The cycle counted and, in an enabled TX_ACTIVE, the oldest waiting byte moved (R135, R139, R140). -/
def stepMoved (s : State) : State :=
  if spe s.cr1 = true ∧ s.state = .txActive then shiftOut (tickCycle s) else tickCycle s

/-- Does a STEP move a byte? In an enabled TX_ACTIVE with a byte waiting, and nowhere else (R137, R139). -/
def MovesByte (s : State) : Prop := spe s.cr1 = true ∧ s.state = .txActive ∧ 0 < s.tx.level.val

theorem stepMoved_of_byte {s : State} (h : MovesByte s) : stepMoved s =
    { s with
      cycle := s.cycle + 1
      tx := s.tx.pop
      rx := if s.rx.level.val < 16 then s.rx.push (~~~s.tx.front) else s.rx
      txcount := s.txcount + 1
      trace := s.trace ++ [.lineOut s.tx.front] } := by
  obtain ⟨hspe, hstate, hlevel⟩ := h
  rw [stepMoved, if_pos ⟨hspe, hstate⟩, shiftOut_byte (s := tickCycle s) hlevel]
  rfl

theorem stepMoved_of_no_byte {s : State} (h : ¬ MovesByte s) : stepMoved s = tickCycle s := by
  unfold stepMoved
  split
  next hactive =>
    obtain ⟨hspe, hs⟩ := hactive
    exact shiftOut_empty (s := tickCycle s) (Nat.eq_zero_of_not_pos fun hlevel => h ⟨hspe, hs, hlevel⟩)
  next => rfl

theorem not_movesByte_of_disabled {s : State} (h : spe s.cr1 = false) : ¬ MovesByte s :=
  fun ⟨hspe, _⟩ => by simp [h] at hspe

theorem not_movesByte_of_ne {s : State} (h : s.state ≠ .txActive) : ¬ MovesByte s :=
  fun ⟨_, hs, _⟩ => h hs

theorem not_movesByte_of_empty {s : State} (h : s.tx.level.val = 0) : ¬ MovesByte s :=
  fun ⟨_, _, hlevel⟩ => by omega

/-- Of the whole record, moving a byte touches the FIFOs, the byte count and the trace. -/
theorem stepMoved_frame (s : State) : stepMoved s =
    { s with
      cycle := s.cycle + 1
      tx := (stepMoved s).tx
      rx := (stepMoved s).rx
      txcount := (stepMoved s).txcount
      trace := (stepMoved s).trace } := by
  by_cases h : MovesByte s
  · rw [stepMoved_of_byte h]
  · rw [stepMoved_of_no_byte h]; rfl

@[simp] theorem stepMoved_state (s : State) : (stepMoved s).state = s.state := by rw [stepMoved_frame]
@[simp] theorem stepMoved_sr (s : State) : (stepMoved s).sr = s.sr := by rw [stepMoved_frame]
@[simp] theorem stepMoved_cycle (s : State) : (stepMoved s).cycle = s.cycle + 1 := by rw [stepMoved_frame]
@[simp] theorem stepMoved_matrix (s : State) : (stepMoved s).matrix = s.matrix := by rw [stepMoved_frame]
@[simp] theorem stepMoved_visits (s : State) : (stepMoved s).visits = s.visits := by rw [stepMoved_frame]

theorem stepMoved_rx_head (s : State) : (stepMoved s).rx.head = s.rx.head := by
  by_cases h : MovesByte s
  · rw [stepMoved_of_byte h]; split <;> simp
  · rw [stepMoved_of_no_byte h]; rfl

section
variable {s : State} (hspe : spe s.cr1 = true) (hs : s.state = .txActive)
include hspe hs

theorem stepMoved_tx_level : (stepMoved s).tx.level.val = txLevelAfter s := by
  by_cases h : 0 < s.tx.level.val
  · rw [stepMoved_of_byte ⟨hspe, hs, h⟩]; exact Fifo.pop_level s.tx
  · rw [stepMoved_of_no_byte (not_movesByte_of_empty (Nat.eq_zero_of_not_pos h)), tickCycle_tx, txLevelAfter]; omega

theorem stepMoved_rx_level : (stepMoved s).rx.level.val = rxLevelAfter s := by
  unfold rxLevelAfter
  by_cases h : 0 < s.tx.level.val
  · rw [stepMoved_of_byte ⟨hspe, hs, h⟩]
    by_cases hr : s.rx.level.val < 16
    · simp [h, hr, Fifo.push_level hr]
    · simp [hr]
  · rw [stepMoved_of_no_byte (not_movesByte_of_empty (Nat.eq_zero_of_not_pos h))]; simp [h]

end

/-! The arms. -/

/-- The arm's change of state is the table's; SR aside, the arm does nothing else but move the byte. -/
theorem stateArm_eq {s : State} (hspe : spe s.cr1 = true) :
    ∃ v, stateArm (tickCycle s) = setSr v (setState (tableNext s) (stepMoved s)) := by
  have hown : ∀ u : State, u = setSr u.sr u := fun _ => rfl
  have hstay : s.state ≠ .txActive → stepMoved s = tickCycle s := fun h =>
    stepMoved_of_no_byte (not_movesByte_of_ne h)
  have hstate : (tickCycle s).state = s.state := rfl
  unfold stateArm
  rw [hstate]
  cases hs : s.state with
  | idle =>
    rw [hstay (by simp [hs]), tableNext_idle hspe hs, ← ite_setState (s := tickCycle s) hs]
    exact ⟨_, hown _⟩
  | txActive =>
    have hmoved : shiftOut (tickCycle s) = stepMoved s := (if_pos ⟨hspe, hs⟩).symm
    have hexit : txExit (stepMoved s) = setState (tableNext s) (stepMoved s) := by
      have hms : (stepMoved s).state = .txActive := (stepMoved_state s).trans hs
      rw [tableNext_txActive hspe hs, ← ite_setState hms, txExit, stepMoved_tx_level hspe hs,
        stepMoved_rx_level hspe hs, stepMoved_sr, apply_ite (setState · (stepMoved s))]
    simp only [stepTx, hmoved, hexit]
    exact ⟨_, hown _⟩
  | rxActive =>
    rw [hstay (by simp [hs]), tableNext_rxActive hspe hs]
    simp only [stepRx, setState_setSr, tickCycle_rx, tickCycle_sr]
    split
    · exact ⟨withRxne true s.sr, by rw [setState_self (tickCycle s) hs.symm]⟩
    · exact ⟨_, rfl⟩
  | txrxActive =>
    rw [hstay (by simp [hs]), tableNext_txrxActive hspe hs, setState_self (tickCycle s) hs.symm]
    exact ⟨_, hown _⟩
  | error =>
    rw [hstay (by simp [hs]), tableNext_error hspe hs, ← ite_setState (s := tickCycle s) hs]
    exact ⟨_, hown _⟩
  | recovery =>
    rw [hstay (by simp [hs]), tableNext_recovery hspe hs, ← ite_setState (s := tickCycle s) hs]
    exact ⟨_, hown _⟩

/-- A STEP from any state. Its SR is `issue_step_sr_disabled` and `issue_step_sr_enabled`. -/
theorem issue_step_eq (s : State) : issue .step s =
    answer none (setSr (issue .step s).sr (setState (tableNext s) (stepMoved s))) := by
  have hsome : ∃ v, issue .step s = answer none (setSr v (setState (tableNext s) (stepMoved s))) := by
    cases hspe : spe s.cr1 with
    | false =>
      rw [issue_step, clockStep_disabled hspe, tableNext_disabled hspe,
        stepMoved_of_no_byte (not_movesByte_of_disabled hspe)]
      exact ⟨_, rfl⟩
    | true =>
      obtain ⟨v, harm⟩ := stateArm_eq hspe
      rw [issue_step, clockStep_enabled hspe, harm]
      exact ⟨_, rfl⟩
  obtain ⟨v, h⟩ := hsome
  have hv : (issue .step s).sr = v := congrArg State.sr h
  rw [hv, h]

/-! The fields after a STEP. -/

theorem issue_step_state (s : State) : (issue .step s).state = tableNext s := by
  rw [issue_step_eq]; simp

theorem issue_step_tx (s : State) : (issue .step s).tx = (stepMoved s).tx := by
  rw [issue_step_eq]; simp

theorem issue_step_rx (s : State) : (issue .step s).rx = (stepMoved s).rx := by
  rw [issue_step_eq]; simp

theorem issue_step_txcount (s : State) : (issue .step s).txcount = (stepMoved s).txcount := by
  rw [issue_step_eq]; simp

theorem issue_step_cycle (s : State) : (issue .step s).cycle = s.cycle + 1 := by
  rw [issue_step_eq]; simp

theorem issue_step_cr1 (s : State) : (issue .step s).cr1 = s.cr1 :=
  congrArg Cells.cr1 (cellsOf_issue (i := .step) rfl s)

theorem issue_step_trace (s : State) :
    (issue .step s).trace = (stepMoved s).trace ++ changeEvents s.state (tableNext s) := by
  rw [issue_step_eq]; simp [setState_trace_eq]

theorem issue_step_tracked (s : State) : Tracked s.state (tableNext s) s (issue .step s) := by
  have h := tracked_setState (tableNext s) (stepMoved s)
  rw [stepMoved_state] at h
  rw [issue_step_eq]
  exact (tracked_congr (stepMoved_matrix s) (stepMoved_visits s) rfl rfl).mp h

/-- The fields a STEP can change (R134). -/
theorem issue_step_frame (s : State) : issue .step s =
    { s with
      sr := (issue .step s).sr
      tx := (stepMoved s).tx
      rx := (stepMoved s).rx
      state := tableNext s
      cycle := s.cycle + 1
      txcount := (stepMoved s).txcount
      matrix := (issue .step s).matrix
      visits := (issue .step s).visits
      trace := (issue .step s).trace
      result := none } := by
  obtain ⟨v, hstep⟩ : ∃ v, issue .step s = answer none (setSr v (setState (tableNext s) (stepMoved s))) :=
    ⟨_, issue_step_eq s⟩
  have hset := setState_frame (tableNext s) (stepMoved s)
  rw [hstep]
  generalize setState (tableNext s) (stepMoved s) = u at hset ⊢
  rw [hset]
  have hmoved := stepMoved_frame s
  generalize stepMoved s = m at hmoved ⊢
  rw [hmoved]
  rfl

end Sys2Proof.Machine
end

section
/-! What each operation leaves of the tracker's fields and the trace (41_clock_step.md R133, R149), and the number of
visited states (R153, R154). -/

namespace Sys2Proof.Machine

/-- STEP, RESET and FORCE_STATE apart, no operation changes the FSM state, counts a visit or emits an event. -/
theorem issue_tracker_cases (i : Instr) (s : State) :
    i = .step ∨ i = .reset ∨ (∃ q, i = .forceState q) ∨
      ((issue i s).state = s.state ∧ (issue i s).visits = s.visits ∧ (issue i s).trace = s.trace) := by
  cases i with
  | step => exact .inl rfl
  | reset => exact .inr (.inl rfl)
  | forceState q => exact .inr (.inr (.inl ⟨q, rfl⟩))
  | wrDr v =>
    obtain ⟨tx, n, hpush⟩ := drWritePush_frame v (coverWrite .dr v s)
    have hissue : issue (.wrDr v) s = answer none (drWritePush v (coverWrite .dr v s)) := rfl
    rw [hissue, hpush]
    exact .inr (.inr (.inr ⟨rfl, rfl, rfl⟩))
  | rdDr =>
    obtain ⟨rx, v, n, hpop, _⟩ := drReadPop_frame s
    have hissue : issue .rdDr s = finishRead .dr (drReadValue s) (drReadPop s) := rfl
    rw [hissue, hpop]
    exact .inr (.inr (.inr ⟨rfl, rfl, rfl⟩))
  | rdCr1 | rdCr2 | rdSr | rdUnmapped _ | wrCr1 _ | wrCr2 _ | wrSr _ | wrUnmapped _ _ | pokeSr _ | peek _ =>
    exact .inr (.inr (.inr ⟨rfl, rfl, rfl⟩))

theorem issue_forceState_state (q : FsmState) (s : State) : (issue (.forceState q) s).state = q :=
  setState_state s q

theorem issue_forceState_trace (q : FsmState) (s : State) :
    (issue (.forceState q) s).trace = s.trace ++ changeEvents s.state q :=
  setState_trace_eq q s

theorem issue_forceState_tracked (q : FsmState) (s : State) : Tracked s.state q s (issue (.forceState q) s) :=
  tracked_setState q s

/-- A tracked change counts at most one visit of a state. -/
theorem visits_of_tracked {p q : FsmState} {s t : State} (h : Tracked p q s t) (i : FsmState) :
    t.visits.get i = s.visits.get i ∨ t.visits.get i = s.visits.get i + 1 := by
  obtain ⟨_, hvisits⟩ := h
  rw [hvisits i]
  split
  · exact .inr rfl
  · exact .inl rfl

theorem issue_visits_get {i : Instr} (hi : i ≠ .reset) (s : State) (q : FsmState) :
    (issue i s).visits.get q = s.visits.get q ∨ (issue i s).visits.get q = s.visits.get q + 1 := by
  obtain rfl | rfl | ⟨p, rfl⟩ | ⟨_, hvisits, _⟩ := issue_tracker_cases i s
  · exact visits_of_tracked (issue_step_tracked s) q
  · exact absurd rfl hi
  · exact visits_of_tracked (issue_forceState_tracked p s) q
  · exact .inl (congrArg (PerState.get · q) hvisits)

theorem visitedCount_mono {s t : State} (h : ∀ q, s.visits.get q ≠ 0#32 → t.visits.get q ≠ 0#32) :
    visitedCount s ≤ visitedCount t := by
  simp only [visitedCount, ← List.countP_eq_length_filter]
  exact List.countP_mono_left fun q _ hq => by simpa using h q (by simpa using hq)

theorem visitedCount_reset : visitedCount State.reset = 0 := by
  simp [visitedCount, visits_reset]

/-- With at most six states visited, the metric takes one of seven values. -/
theorem stateCoverage_mem (s : State) :
    stateCoverage s ∈ [(0 : Rat), 50 / 3, 100 / 3, 50, 200 / 3, 250 / 3, 100] := by
  have hle := visitedCount_le s
  unfold stateCoverage
  interval_cases visitedCount s <;> norm_num

end Sys2Proof.Machine
end

section
/-! STEP case by case: a step that moves a byte and one that moves none, the bits of SR it computes, and repeated steps
(41_clock_step.md R139 to R147, R150, R152). -/

namespace Sys2Proof.Machine

theorem issue_step_of_no_byte {s : State} (h : ¬ MovesByte s) :
    (issue .step s).tx = s.tx ∧ (issue .step s).rx = s.rx ∧ (issue .step s).txcount = s.txcount ∧
      (issue .step s).trace = s.trace ++ changeEvents s.state (tableNext s) := by
  rw [issue_step_tx, issue_step_rx, issue_step_txcount, issue_step_trace, stepMoved_of_no_byte h]
  exact ⟨rfl, rfl, rfl, rfl⟩

/-- After a moved byte something has been received, so the step stays or leaves for RX_ACTIVE (R142). -/
theorem tableNext_of_byte {s : State} (h : MovesByte s) :
    tableNext s = if s.tx.pop.contents = [] ∧ txe s.sr = false then .rxActive else .txActive := by
  obtain ⟨hspe, hs, hlevel⟩ := h
  have hrx : 0 < rxLevelAfter s := by unfold rxLevelAfter; split <;> omega
  simp only [tableNext_txActive hspe hs, if_pos hrx, Fifo.contents_eq_nil, Fifo.pop_level, txLevelAfter]

theorem issue_step_txe {s : State} (h : spe s.cr1 = true) :
    (issue .step s).sr.getLsbD 1 = decide ((issue .step s).tx.level.val < 16) := by
  have htx : (issue .step s).tx = (stateArm (tickCycle s)).tx := by rw [issue_step, clockStep_enabled h]; rfl
  rw [issue_step_sr_enabled h, getLsbD_withTxe, if_pos rfl, htx, txeOf]

theorem issue_step_rxne {s : State} (h : spe s.cr1 = true) (hs : s.state = .rxActive) :
    (issue .step s).sr.getLsbD 0 = decide (0 < s.rx.level.val) := by
  rw [issue_step_sr_enabled h, getLsbD_withTxe, if_neg (by decide), if_pos hs, getLsbD_withRxne, if_pos rfl]

/-! The events of a change and of a moved byte. -/

theorem filter_changeEvents (p q : FsmState) :
    (changeEvents p q).filter Event.isStateChange = changeEvents p q := by
  unfold changeEvents
  split <;> rfl

theorem stepMoved_filter_trace (s : State) :
    (stepMoved s).trace.filter Event.isStateChange = s.trace.filter Event.isStateChange := by
  by_cases h : MovesByte s
  · rw [stepMoved_of_byte h]
    simp [Event.isStateChange]
  · rw [stepMoved_of_no_byte h]
    rfl

theorem changeEvents_cases {p q : FsmState} {c : Prop} (hc : c) :
    changeEvents p q = [] ∨ (changeEvents p q = [.stateChange p q] ∧ p ≠ q ∧ c) := by
  by_cases h : p = q
  · exact .inl (if_pos h)
  · exact .inr ⟨if_neg h, h, hc⟩

/-! The host that transmits and polls (R150). -/

/-- Enabled, in TX_ACTIVE, with TXE set. -/
def Transmitting (s : State) : Prop := s.cr1.getLsbD 6 = true ∧ s.state = .txActive ∧ s.sr.getLsbD 1 = true

/-- What the host of R150 does: step, write DR, read DR and SR. -/
def TransmitsOrPolls (i : Instr) : Prop := i = .step ∨ i = .rdDr ∨ i = .rdSr ∨ ∃ v, i = .wrDr v

theorem TransmitsOrPolls.sparesCells {i : Instr} (hi : TransmitsOrPolls i) : sparesCells i = true := by
  obtain rfl | rfl | rfl | ⟨v, rfl⟩ := hi <;> rfl

theorem TransmitsOrPolls.ne_wrSr_pokeSr_reset_forceState {i : Instr} (hi : TransmitsOrPolls i) :
    (∀ v, i ≠ .wrSr v) ∧ (∀ v, i ≠ .pokeSr v) ∧ i ≠ .reset ∧ ∀ q, i ≠ .forceState q := by
  obtain rfl | rfl | rfl | ⟨v, rfl⟩ := hi <;> simp

theorem issue_step_keeps_transmitting {s : State} (h : Transmitting s) : Transmitting (issue .step s) := by
  obtain ⟨hspe, hs, htxe⟩ := h
  refine ⟨(congrArg (·.getLsbD 6) (issue_step_cr1 s)).trans hspe, ?_, ?_⟩
  · rw [issue_step_state, tableNext_txActive hspe hs, if_neg fun ⟨_, hclear⟩ => by cases htxe.symm.trans hclear]
  · rw [issue_step_txe hspe, issue_step_tx, stepMoved_tx_level hspe hs, txLevelAfter, decide_eq_true_eq]
    omega

theorem issue_keeps_transmitting {i : Instr} {s : State} (hi : TransmitsOrPolls i) (h : Transmitting s) :
    Transmitting (issue i s) := by
  by_cases hstep : i = .step
  · subst hstep
    exact issue_step_keeps_transmitting h
  · obtain ⟨hspe, hs, htxe⟩ := h
    obtain ⟨hwr, hpoke, hreset, hforce⟩ := hi.ne_wrSr_pokeSr_reset_forceState
    have hcr1 : (issue i s).cr1 = s.cr1 := congrArg Cells.cr1 (cellsOf_issue hi.sparesCells s)
    have hstate : (issue i s).state = s.state := by
      obtain rfl | rfl | ⟨q, rfl⟩ | ⟨hkept, _⟩ := issue_tracker_cases i s
      · exact absurd rfl hstep
      · exact absurd rfl hreset
      · exact absurd rfl (hforce q)
      · exact hkept
    have hbit : (issue i s).sr.getLsbD 1 = s.sr.getLsbD 1 := by
      by_contra hne
      obtain ⟨hi', _⟩ | ⟨_, h0, _⟩ := issue_getLsbD_sr_cases hwr hpoke hreset hne
      · exact hstep hi'
      · cases h0
    exact ⟨hcr1 ▸ hspe, hstate.trans hs, hbit.trans htxe⟩

/-- RXNE is set by a STEP in RX_ACTIVE alone (R143). -/
theorem issue_keeps_rxne_clear {i : Instr} {s : State} (hi : TransmitsOrPolls i) (h : Transmitting s)
    (h0 : s.sr.getLsbD 0 = false) : (issue i s).sr.getLsbD 0 = false := by
  obtain ⟨_, hs, _⟩ := h
  obtain ⟨hwr, hpoke, hreset, _⟩ := hi.ne_wrSr_pokeSr_reset_forceState
  by_cases hkept : (issue i s).sr.getLsbD 0 = s.sr.getLsbD 0
  · exact hkept.trans h0
  · obtain ⟨_, _, h1 | ⟨_, hrx⟩⟩ | ⟨_, _, _, hclear⟩ := issue_getLsbD_sr_cases hwr hpoke hreset hkept
    · cases h1
    · cases hs.symm.trans hrx
    · exact hclear

theorem issueAll_keeps_transmitting {is : List Instr} {s : State} (his : ∀ i ∈ is, TransmitsOrPolls i)
    (h : Transmitting s) : Transmitting (issueAll is s) ∧
      (s.sr.getLsbD 0 = false → (issueAll is s).sr.getLsbD 0 = false) := by
  induction is generalizing s with
  | nil => exact ⟨h, id⟩
  | cons i is ih =>
    have hi : TransmitsOrPolls i := his i List.mem_cons_self
    obtain ⟨hrest, hclear⟩ := ih (fun j hj => his j (List.mem_cons_of_mem i hj)) (issue_keeps_transmitting hi h)
    exact ⟨hrest, fun h0 => hclear (issue_keeps_rxne_clear hi h h0)⟩

/-! RECOVERY (R152). -/

theorem steps_cycle (n : Nat) (s : State) : (steps n s).cycle = s.cycle + BitVec.ofNat 32 n := by
  induction n with
  | zero => simp [steps]
  | succ n ih => rw [steps_succ, issue_step_cycle, ih, BitVec.add_assoc, BitVec.ofNat_add]; rfl

theorem steps_cr1 (n : Nat) (s : State) : (steps n s).cr1 = s.cr1 := by
  induction n with
  | zero => rfl
  | succ n ih => rw [steps_succ, issue_step_cr1, ih]

/-- The step that follows `n` others in RECOVERY. -/
theorem steps_succ_state_of_recovery {s : State} {n : Nat} (hspe : spe s.cr1 = true)
    (hs : (steps n s).state = .recovery) :
    (steps (n + 1) s).state = if (s.cycle.toNat + (n + 1)) % 2 ^ 32 % 10 = 0 then .idle else .recovery := by
  have hcycle : ((steps n s).cycle + 1).toNat = (s.cycle.toNat + (n + 1)) % 2 ^ 32 := by
    rw [steps_cycle]; simp [BitVec.toNat_add, Nat.add_assoc]
  rw [steps_succ, issue_step_state, tableNext_recovery (by rwa [steps_cr1]) hs, hcycle]

theorem steps_state_recovery {s : State} (hspe : spe s.cr1 = true) (hs : s.state = .recovery) {n : Nat}
    (hn : ∀ k, 1 ≤ k → k ≤ n → (s.cycle.toNat + k) % 2 ^ 32 % 10 ≠ 0) : (steps n s).state = .recovery := by
  induction n with
  | zero => exact hs
  | succ n ih =>
    have hprev := ih fun k h1 hk => hn k h1 (by omega)
    rw [steps_succ_state_of_recovery hspe hprev, if_neg (hn (n + 1) (by omega) (le_refl _))]

theorem recoveryDuration_bounds {e : Nat} (h : e < 2 ^ 32) : 1 ≤ recoveryDuration e ∧ recoveryDuration e ≤ 10 := by
  unfold recoveryDuration
  split_ifs <;> omega

theorem add_recoveryDuration_le {e : Nat} (h : e < 2 ^ 32) : e + recoveryDuration e ≤ 2 ^ 32 := by
  unfold recoveryDuration
  split_ifs <;> omega

/-- The duration is the distance to the next multiple of 10, on the 32-bit counter, whose wrap is one. -/
theorem recoveryDuration_first_multiple {e : Nat} (h : e < 2 ^ 32) :
    (∀ k, 1 ≤ k → k < recoveryDuration e → (e + k) % 2 ^ 32 % 10 ≠ 0) ∧
      (e + recoveryDuration e) % 2 ^ 32 % 10 = 0 := by
  have hle := add_recoveryDuration_le h
  refine ⟨fun k h1 hk => ?_, ?_⟩
  · have hlt : e + k < 2 ^ 32 := by omega
    rw [Nat.mod_eq_of_lt hlt]
    unfold recoveryDuration at hk
    split_ifs at hk <;> omega
  · obtain hlt | heq := hle.lt_or_eq
    · rw [Nat.mod_eq_of_lt hlt]
      unfold recoveryDuration at hlt ⊢
      split_ifs at hlt ⊢ <;> omega
    · rw [heq]; rfl

end Sys2Proof.Machine
end

section
/-! The obligations about STEP, the tracker, the FIFOs and the coverage metric. -/

namespace Sys2Proof.Machine

/-- Settles O41: TX_ACTIVE is left only when TXE is clear, and a step leaves at most 15 bytes waiting, so TXE set; RXNE
is set in RX_ACTIVE alone. The lists go by induction. -/
theorem transmitStateNeverLeavesUnaided : Obligations.TransmitStateNeverLeavesUnaided := by
  refine ⟨fun i s hi hspe hs htxe => ⟨_, exec_eq_issue i s, ?_⟩,
    fun is s his hspe hs htxe => ⟨_, execAll_eq_issueAll is s, ?_⟩⟩
  · obtain ⟨hspe', hs', htxe'⟩ := issue_keeps_transmitting hi ⟨hspe, hs, htxe⟩
    exact ⟨hspe', hs', htxe', issue_keeps_rxne_clear hi ⟨hspe, hs, htxe⟩⟩
  · obtain ⟨⟨hspe', hs', htxe'⟩, hclear⟩ := issueAll_keeps_transmitting his ⟨hspe, hs, htxe⟩
    exact ⟨hspe', hs', htxe', hclear⟩

/-- Settles O24: each arm's change of state is the table's (`stateArm_eq`). -/
theorem stepFollowsTheNextStateTable : Obligations.StepFollowsTheNextStateTable :=
  fun s => ⟨_, exec_eq_issue .step s, issue_step_state s⟩

/-- Settles O25: the moved byte is the front of the transmit FIFO, and its complement is pushed when there is room. -/
theorem transmitStepMovesOneByte : Obligations.TransmitStepMovesOneByte := by
  intro s b rest hspe hs hbytes
  have hlevel : 0 < s.tx.level.val := by simp [← Fifo.length_contents, hbytes]
  obtain ⟨rfl, rfl⟩ := List.cons.inj ((Fifo.contents_eq_front_cons_pop hlevel).symm.trans hbytes)
  have hmove : MovesByte s := ⟨hspe, hs, hlevel⟩
  have hflip : s.tx.front ^^^ 0xFF = ~~~s.tx.front := BitVec.xor_allOnes
  refine ⟨_, exec_eq_issue .step s, ?_⟩
  rw [issue_step_tx, issue_step_rx, issue_step_txcount, issue_step_state, issue_step_trace, stepMoved_of_byte hmove,
    Fifo.length_contents, hflip, hs]
  refine ⟨rfl, Fifo.pop_buf _, Fifo.pop_head hlevel, fun hroom => ?_, fun hfull => ?_, fun n hn => ?_, ?_,
    BitVec.toNat_add _ _, fun k hk => ?_, tableNext_of_byte hmove, ?_⟩
  · simpa [hroom] using Fifo.contents_push hroom _
  · simp [hfull]
  · by_cases hroom : s.rx.level.val < 16
    · simpa [hroom] using Fifo.push_buf_of_ne hroom _ hn
    · simp [hroom]
  · split <;> simp
  · by_contra hne
    obtain ⟨_, h1 | ⟨_, hrx⟩⟩ := issue_step_getLsbD_sr hne
    · exact hk h1
    · simp [hs] at hrx
  · simp

/-- Settles O26: each of the three alternatives excludes a moved byte. -/
theorem otherStepsMoveNoByte : Obligations.OtherStepsMoveNoByte := by
  intro s h
  have hmove : ¬ MovesByte s := by
    obtain hoff | hne | hempty := h
    · exact not_movesByte_of_disabled hoff
    · exact not_movesByte_of_ne hne
    · exact not_movesByte_of_empty (Fifo.contents_eq_nil.mp hempty)
  exact ⟨_, exec_eq_issue .step s, issue_step_state s ▸ issue_step_of_no_byte hmove⟩

/-- Settles O27: TXE is recomputed from the level after the arm, and a bit that changes is TXE or RXNE. -/
theorem enabledStepRecomputesTxe : Obligations.EnabledStepRecomputesTxe := by
  intro s hspe
  refine ⟨_, exec_eq_issue .step s, by rw [issue_step_txe hspe, decide_eq_true_eq], fun k hk => ?_, fun hs => ?_⟩
  · by_contra hne
    obtain ⟨_, hbit⟩ := issue_step_getLsbD_sr hne
    omega
  · by_contra hne
    obtain ⟨_, h1 | ⟨_, hrx⟩⟩ := issue_step_getLsbD_sr hne
    · cases h1
    · exact hs hrx

/-- Settles O32: both operations make their change through SetState; the only other event is a LineOut. -/
theorem stateChangesAreTracked : Obligations.StateChangesAreTracked := by
  intro s i hi
  refine ⟨_, exec_eq_issue i s, ?_⟩
  obtain rfl | ⟨q, rfl⟩ := hi
  · rw [issue_step_state, issue_step_trace, List.filter_append, stepMoved_filter_trace, filter_changeEvents]
    exact ⟨issue_step_tracked s, rfl⟩
  · rw [issue_forceState_state, issue_forceState_trace, List.filter_append, filter_changeEvents]
    exact ⟨issue_forceState_tracked q s, rfl⟩

/-- Settles O34: the table never enters TXRX_ACTIVE or ERROR, and enters RECOVERY from ERROR alone. -/
theorem errorAndTxrxAreEnteredOnlyByForce : Obligations.ErrorAndTxrxAreEnteredOnlyByForce := by
  intro i s t hexec hne
  obtain rfl := eq_issue_of_exec hexec
  obtain rfl | rfl | ⟨q, rfl⟩ | ⟨hstate, _⟩ := issue_tracker_cases i s
  · rw [issue_step_state] at hne ⊢
    obtain h | h | h | h | ⟨hs, h⟩ := tableNext_cases s
    · exact absurd h hne
    · simp [h]
    · simp [h]
    · simp [h]
    · simp [h, hs]
  · have hidle : (issue .reset s).state = .idle := rfl
    simp [hidle]
  · rw [issue_forceState_state]
    exact ⟨fun _ => rfl, fun hq => .inl (congrArg _ hq)⟩
  · exact absurd hstate hne

/-- Settles O35: a STEP appends the LineOut of the byte it moves and then its change, FORCE_STATE appends its change,
no other operation appends anything. -/
theorem eventsOfOneOperation : Obligations.EventsOfOneOperation := by
  intro i s t hexec
  obtain rfl := eq_issue_of_exec hexec
  obtain rfl | rfl | ⟨q, rfl⟩ | ⟨_, _, htrace⟩ := issue_tracker_cases i s
  · rw [issue_step_state, issue_step_trace]
    by_cases hmove : MovesByte s
    · have htrace : (stepMoved s).trace = s.trace ++ [.lineOut s.tx.front] := by rw [stepMoved_of_byte hmove]
      obtain ⟨hspe, hs, hlevel⟩ := hmove
      exact ⟨_, _, congrArg (· ++ _) htrace,
        .inr ⟨_, _, rfl, rfl, hspe, hs, Fifo.contents_eq_front_cons_pop hlevel⟩, changeEvents_cases (.inl rfl)⟩
    · exact ⟨[], _, by rw [stepMoved_of_no_byte hmove, tickCycle_trace, List.append_nil], .inl rfl,
        changeEvents_cases (.inl rfl)⟩
  · have hkept : (issue .reset s).trace = s.trace := rfl
    exact ⟨[], [], by simp [hkept], .inl rfl, .inl rfl⟩
  · rw [issue_forceState_state]
    exact ⟨[], _, by rw [issue_forceState_trace, List.append_nil], .inl rfl, changeEvents_cases (.inr ⟨q, rfl⟩)⟩
  · exact ⟨[], [], by simp [htrace], .inl rfl, .inl rfl⟩

/-- Settles O42: RECOVERY stays until the incremented cycle is a multiple of 10, and the duration is the distance to the
first one. -/
theorem recoveryLastsUntilAMultipleOfTen : Obligations.RecoveryLastsUntilAMultipleOfTen := by
  intro s t hspe _ hexec hrec
  have hon : spe t.cr1 = true := by rw [eq_issue_of_exec hexec, issue_step_cr1]; exact hspe
  have hrun : ∀ n, execAll (List.replicate n .step) t = .next (steps n t) := fun n => by
    rw [execAll_eq_issueAll, issueAll_replicate_step]
  have hlt : t.cycle.toNat < 2 ^ 32 := t.cycle.isLt
  obtain ⟨hpos, hten⟩ := recoveryDuration_bounds hlt
  obtain ⟨hbefore, hat⟩ := recoveryDuration_first_multiple hlt
  have hstays : ∀ k, k < recoveryDuration t.cycle.toNat → (steps k t).state = .recovery := fun k hk =>
    steps_state_recovery hon hrec fun j h1 hj => hbefore j h1 (by omega)
  refine ⟨hpos, hten, fun k hk => ⟨_, hrun k, hstays k hk⟩, _, hrun _, ?_⟩
  obtain ⟨n, hn⟩ := Nat.exists_eq_add_of_le' hpos
  rw [hn] at hat ⊢
  rw [steps_succ_state_of_recovery hon (hstays n (by omega)), if_pos hat]

/-- Settles O43: a visit counter is kept or counted up, and counting up gives 0 only from 0xFFFFFFFF. -/
theorem visitedStatesNeverFall : Obligations.VisitedStatesNeverFall := by
  refine ⟨fun i s t hexec hi hmax => ?_, fun s t hexec => ?_⟩
  · obtain rfl := eq_issue_of_exec hexec
    refine visitedCount_mono fun q hq => ?_
    obtain h | h := issue_visits_get hi s q
    · rwa [h]
    · rw [h]
      exact fun h0 => hmax q (eq_neg_of_add_eq_zero_left h0)
  · obtain rfl := eq_issue_of_exec hexec
    exact visitedCount_reset

/-- Settles O44: the metric by its definition, its values by the count's bound of six, and PEEK's value by the same. -/
theorem stateCoverageIsVisitedSixths : Obligations.StateCoverageIsVisitedSixths := by
  refine ⟨fun s => ?_, by simp [stateCoverage, visitedCount_reset]⟩
  rw [← visitedCount_eq]
  have hle := visitedCount_le s
  exact ⟨rfl, stateCoverage_mem s, _, _, decode_peek .visited 0, exec_eq_issue (.peek .visited) s, rfl,
    Nat.mod_eq_of_lt (by omega)⟩

/-- Settles O45: the FIFO primitives' own equations. -/
theorem fifosAreFirstInFirstOut : Obligations.FifosAreFirstInFirstOut :=
  fun f =>
    ⟨fun b h => ⟨Fifo.contents_push h b, Fifo.push_head f b, Fifo.push_level h b, fun _ => Fifo.push_buf_of_ne h b⟩,
      fun h => ⟨Fifo.contents_eq_front_cons_pop h, Fifo.pop_head h, Fifo.pop_level f, Fifo.pop_buf f⟩⟩

/-- Settles O23: a disabled step moves no byte, its next state is IDLE, and SR is kept. -/
theorem disabledStepOnlyForcesIdle : Obligations.DisabledStepOnlyForcesIdle := by
  intro s hoff
  have hidle : tableNext s = .idle := tableNext_disabled hoff
  obtain ⟨htx, hrx, hcount, htrace⟩ := issue_step_of_no_byte (not_movesByte_of_disabled hoff)
  have htracked := issue_step_tracked s
  have hframe := issue_step_frame s
  rw [← issue_step_tx, ← issue_step_rx, ← issue_step_txcount, htx, hrx, hcount, issue_step_sr_disabled hoff,
    hidle] at hframe
  rw [hidle] at htracked htrace
  exact ⟨_, exec_eq_issue .step s, (issue_step_state s).trans hidle, htracked, htrace, hframe⟩

/-- Settles O28: both RXNE and the next state are decided by the receive level. -/
theorem receiveStepRaisesRxneUntilDrained : Obligations.ReceiveStepRaisesRxneUntilDrained := by
  intro s hspe hs
  obtain ⟨htx, hrx, _⟩ := issue_step_of_no_byte (s := s) (not_movesByte_of_ne (by simp [hs]))
  refine ⟨_, exec_eq_issue .step s, ?_, ?_, hrx, htx⟩
  · rw [ne_eq, Fifo.contents_eq_nil, issue_step_rxne hspe hs, issue_step_state, tableNext_rxActive hspe hs]
    intro hlevel
    simp [Nat.pos_of_ne_zero hlevel]
  · rw [Fifo.contents_eq_nil, issue_step_rxne hspe hs, issue_step_state, tableNext_rxActive hspe hs]
    intro hlevel
    simp [hlevel]

/-- Settles O29: the ERROR and the RECOVERY row of the table. -/
theorem errorAndRecoveryStepsLeaveAsStated : Obligations.ErrorAndRecoveryStepsLeaveAsStated := by
  intro s hspe
  refine ⟨fun hs => ?_, fun hs => ?_⟩
  · obtain ⟨htx, hrx, _⟩ := issue_step_of_no_byte (s := s) (not_movesByte_of_ne (by simp [hs]))
    refine ⟨_, exec_eq_issue .step s, htx, hrx, fun hclear => ?_, fun hset => ?_⟩
    · rw [issue_step_state, tableNext_error hspe hs, if_pos ((err_eq_zero _).mpr hclear)]
    · rw [issue_step_state, tableNext_error hspe hs, if_neg]
      rw [err_eq_zero]
      rintro ⟨h4, h5, h6⟩
      simp only [h4, h5, h6, Bool.false_eq_true, or_self] at hset
  · obtain ⟨htx, hrx, _⟩ := issue_step_of_no_byte (s := s) (not_movesByte_of_ne (by simp [hs]))
    refine ⟨_, exec_eq_issue .step s, htx, hrx, ?_⟩
    rw [issue_step_state, issue_step_cycle, tableNext_recovery hspe hs]
    exact ⟨fun h => if_pos h, fun h => if_neg h⟩

/-- Settles O30: the fields STEP can change, and a push leaves the head. -/
theorem stepLeavesTheRestUnchanged : Obligations.StepLeavesTheRestUnchanged := by
  intro s
  have hframe := issue_step_frame s
  rw [← issue_step_state, ← issue_step_cycle, ← issue_step_tx, ← issue_step_rx, ← issue_step_txcount] at hframe
  exact ⟨_, exec_eq_issue .step s, issue_step_rx s ▸ stepMoved_rx_head s, hframe⟩

end Sys2Proof.Machine
end

section
/-! The obligations about RESET, POKE_SR, FORCE_STATE and PEEK (42_control_ops.md). -/

namespace Sys2Proof.Machine

/-- FORCE_STATE is SetState with nothing returned, so only the tracker's fields and the trace follow the state (R172). -/
theorem issue_forceState_frame (q : FsmState) (s : State) : issue (.forceState q) s =
    { s with
      state := q
      matrix := (issue (.forceState q) s).matrix
      visits := (issue (.forceState q) s).visits
      trace := (issue (.forceState q) s).trace
      result := none } :=
  congrArg (answer none) (setState_frame q s)

/-- RESET keeps only the pending requests and the trace, neither of which is a component of R40's record. -/
theorem powerOn_issue_reset (s : State) : PowerOn (issue .reset s) := powerOn_reset

theorem issue_pokeSr_eq (v : Word) (s : State) : issue (.pokeSr v) s = { s with sr := v, result := none } := rfl

theorem issue_peek_eq (item : PeekItem) (s : State) :
    issue (.peek item) s = { s with result := some (peekValue s item) } := rfl

/-- Settles O19: each code names its state, and the change is SetState's, recorded and emitted by the tracker. -/
theorem forceStateSetsTheState : Obligations.ForceStateSetsTheState := by
  refine ⟨fun p hp d => ?_, fun s q => ⟨_, exec_eq_issue (.forceState q) s, issue_forceState_state q s,
    issue_forceState_tracked q s, issue_forceState_trace q s, issue_forceState_frame q s⟩⟩
  rw [stateCode_of_mem hp]
  exact decode_forceState p.1 d

/-- Settles O16: the block after RESET is the power-on block, under the trace it had. -/
theorem resetRestoresThePowerOnValues : Obligations.ResetRestoresThePowerOnValues :=
  fun s d => ⟨decode_reset 0 d, _, exec_eq_issue .reset s, powerOn_issue_reset s, rfl⟩

/-- Settles O18: the write access is the same change of SR with its coverage added. -/
theorem pokeSrWritesSrWithoutCoverage : Obligations.PokeSrWritesSrWithoutCoverage := by
  refine fun s v => ⟨decode_pokeSr 0 v, _, _, exec_eq_issue (.pokeSr v) s, exec_eq_issue (.wrSr v) s,
    issue_pokeSr_eq v s, ?_⟩
  rw [issue_pokeSr_eq, issue_wrSr_eq]

/-- Settles O21: the item's own selector decodes to it, and PEEK answers with its value. -/
theorem peekCompletesForEveryItem : Obligations.PeekCompletesForEveryItem := by
  refine fun s item => ⟨selOfPeek item, peekValue s item, Nat.le_of_lt_succ (selOfPeek_lt item), decode_peek item 0, ?_⟩
  rw [exec_eq_issue, issue_peek_eq]

end Sys2Proof.Machine
end

section
/-! The words the driver writes, bit by bit (45_host_driver.md R193, R194, R204), and the block after the driver's
first writes (R195). -/

namespace Sys2Proof.Driver

open Sys2Proof.Machine Sys2Proof.Config

/-- A field of `w` bits put at bit `n` of a word. -/
theorem getLsbD_field {w : Nat} (v : BitVec w) {n : Nat} (hn : n + w ≤ 32) (k : Nat) :
    ((v.setWidth 32 : Word) <<< n).getLsbD k = if n ≤ k ∧ k < n + w then v.getLsbD (k - n) else false := by
  rw [BitVec.getLsbD_shiftLeft, BitVec.getLsbD_setWidth]
  by_cases hlt : k < n
  · simp [hlt, Nat.not_le.mpr hlt]
  · by_cases hin : k < n + w
    · simp [hlt, Nat.not_lt.mp hlt, hin, show k < 32 by omega, show k - n < 32 by omega]
    · simp [hin, BitVec.getLsbD_of_ge v (k - n) (by omega)]

/-- CR1's bits (R193). -/
theorem getLsbD_cr1Of (cfg : DriverConfig) (k : Nat) : (cr1Of cfg).getLsbD k =
    if k = 0 then cfg.cpha.getLsbD 0
    else if k = 1 then cfg.cpol.getLsbD 0
    else if k = 2 then cfg.master
    else if k < 6 then (brCode cfg.baud).getLsbD (k - 3)
    else if k = 11 then cfg.dataSize == .bits16
    else false := by
  have h0 : (cfg.cpha.setWidth 32 : Word) = cfg.cpha.setWidth 32 <<< 0 := (BitVec.shiftLeft_zero _).symm
  rw [cr1Of, h0]
  simp (disch := decide) only [BitVec.getLsbD_or, getLsbD_field]
  by_cases hk : k < 12
  · interval_cases k <;> simp
  · simp (disch := omega) only [if_neg, Bool.or_false]

/-- CR2's bits (R194). -/
theorem getLsbD_cr2Of (cfg : DriverConfig) (k : Nat) :
    (cr2Of cfg).getLsbD k = if k = 2 then cfg.ssm else false := by
  rw [cr2Of, getLsbD_field _ (by decide)]
  by_cases hk : k = 2
  · simp [hk]
  · rw [if_neg hk, if_neg (by omega)]

theorem br_cr1Of (cfg : DriverConfig) : br (cr1Of cfg) = brCode cfg.baud := by
  apply BitVec.eq_of_getLsbD_eq
  intro i hi
  simp (disch := omega) only [br, BitVec.getLsbD_extractLsb', getLsbD_cr1Of, if_neg, if_pos, hi, decide_true,
    Bool.true_and, Nat.add_sub_cancel_left]

/-- The prescaler field of a CR1 value replaced (R204). -/
def withBr (c : BitVec 3) (v : Word) : Word := (v &&& ~~~0x38#32) ||| c.setWidth 32 <<< 3

theorem getLsbD_withBr (c : BitVec 3) (v : Word) (k : Nat) :
    (withBr c v).getLsbD k = if 3 ≤ k ∧ k < 6 then c.getLsbD (k - 3) else v.getLsbD k := by
  have hmask : 0x38#32 = (7#3).setWidth 32 <<< 3 := by decide
  rw [withBr, hmask, BitVec.getLsbD_or, BitVec.getLsbD_and, BitVec.getLsbD_not, getLsbD_field _ (by decide),
    getLsbD_field _ (by decide)]
  by_cases hk : 3 ≤ k ∧ k < 6
  · obtain rfl | rfl | rfl : k = 3 ∨ k = 4 ∨ k = 5 := by omega
    all_goals simp
  · by_cases h32 : k < 32
    · simp [hk, h32]
    · simp [hk, BitVec.getLsbD_of_ge v k (by omega)]

theorem br_withBr (c : BitVec 3) (v : Word) : br (withBr c v) = c := by
  apply BitVec.eq_of_getLsbD_eq
  intro i hi
  rw [br, BitVec.getLsbD_extractLsb', getLsbD_withBr, if_pos (by omega)]
  simp [hi]

theorem rewritePrescaler_eq (baud : Int) (s : State) : rewritePrescaler baud s =
    { s with
      cr1 := withBr (brCode baud) s.cr1
      rcov := { s.rcov with cr1 := s.rcov.cr1 ||| s.cr1 }
      wcov := { s.wcov with cr1 := s.wcov.cr1 ||| withBr (brCode baud) s.cr1 }
      result := none } :=
  issue_wrCr1_issue_rdCr1 (withBr (brCode baud) s.cr1) s

/-- The block after the three writes of initialize (R195). -/
theorem issueAll_initWrites_reset (cfg : DriverConfig) : issueAll (initWrites cfg) State.reset =
    { State.reset with
      cr1 := cr1Of cfg ||| 0x40
      cr2 := cr2Of cfg
      wcov := ⟨cr1Of cfg ||| 0x40, cr2Of cfg, 0, 0⟩ } := by
  simp only [issueAll, initWrites, List.foldl, issue_wrCr1_eq, issue_wrCr2_eq]
  simp [State.reset, ← BitVec.or_assoc]

end Sys2Proof.Driver
end

section
/-! What a wait keeps and answers (45_host_driver.md R196). -/

namespace Sys2Proof.Driver

open Sys2Proof.Machine

/-- A wait only polls and steps, so it keeps what both keep. -/
theorem waitSr_keeps {P : State → Prop} (hpoll : ∀ s, P s → P (issue .rdSr s))
    (hstep : ∀ s, P s → P (issue .step s)) (pred : Word → Bool) (b : Nat) {s : State} (hs : P s) :
    P (waitSr pred b s).2 := by
  induction b generalizing s with
  | zero =>
    cases h : pred s.sr with
    | true => rw [waitSr_ok h]; exact hpoll s hs
    | false => rw [waitSr_timeout h]; exact hpoll s hs
  | succ b ih =>
    cases h : pred s.sr with
    | true => rw [waitSr_ok h]; exact hpoll s hs
    | false => rw [waitSr_step h]; exact ih (hstep _ (hpoll s hs))

/-- The wait sees its predicate hold within its budget, or spends the whole budget in vain. -/
theorem waitSr_cases (pred : Word → Bool) (b : Nat) (s : State) :
    ((waitSr pred b s).1 = .ok ∧ pred (waitSr pred b s).2.sr = true ∧
      ∃ n, n ≤ b ∧ (waitSr pred b s).2.cycle = s.cycle + BitVec.ofNat 32 n) ∨
    ((waitSr pred b s).1 = .timeout ∧ pred (waitSr pred b s).2.sr = false ∧
      (waitSr pred b s).2.cycle = s.cycle + BitVec.ofNat 32 b) := by
  have hzero : s.cycle = s.cycle + BitVec.ofNat 32 0 := (BitVec.add_zero _).symm
  induction b generalizing s with
  | zero =>
    cases h : pred s.sr with
    | true => rw [waitSr_ok h]; exact .inl ⟨rfl, h, 0, le_refl 0, hzero⟩
    | false => rw [waitSr_timeout h]; exact .inr ⟨rfl, h, hzero⟩
  | succ b ih =>
    cases h : pred s.sr with
    | true => rw [waitSr_ok h]; exact .inl ⟨rfl, h, 0, Nat.zero_le _, hzero⟩
    | false =>
      rw [waitSr_step h]
      have hcycle : ∀ n, (issue .step (issue .rdSr s)).cycle + BitVec.ofNat 32 n =
          s.cycle + BitVec.ofNat 32 (n + 1) := fun n => by
        rw [issue_step_cycle, BitVec.add_assoc, Nat.add_comm, BitVec.ofNat_add]; rfl
      obtain ⟨hr, hp, n, hn, hc⟩ | ⟨hr, hp, hc⟩ := ih (issue .step (issue .rdSr s)) (BitVec.add_zero _).symm
      · exact .inl ⟨hr, hp, n + 1, Nat.succ_le_succ hn, hc.trans (hcycle n)⟩
      · exact .inr ⟨hr, hp, hc.trans (hcycle b)⟩

/-- `t` is `s` as far as polling SR and stepping cannot tell: CR1, CR2 and all coverage but SR's read coverage. -/
def SameButPolls (s t : State) : Prop :=
  t.cr1 = s.cr1 ∧ t.cr2 = s.cr2 ∧ t.wcov = s.wcov ∧ t.rcov = { s.rcov with sr := t.rcov.sr }

theorem waitSr_sameButPolls (pred : Word → Bool) (b : Nat) (s : State) : SameButPolls s (waitSr pred b s).2 := by
  refine waitSr_keeps (P := SameButPolls s) (fun t ht => ?_) (fun t ht => ?_) pred b ⟨rfl, rfl, rfl, rfl⟩
  · obtain ⟨h1, h2, hw, hr⟩ := ht
    exact ⟨h1, h2, hw, congrArg (fun c : PerReg => { c with sr := t.rcov.sr ||| t.sr }) hr⟩
  · obtain ⟨h1, h2, hw, hr⟩ := ht
    have hcells := cellsOf_issue (i := .step) rfl t
    obtain ⟨hstepw, hstepr⟩ := issue_step_coverage t
    exact ⟨(congrArg Cells.cr1 hcells).trans h1, (congrArg Cells.cr2 hcells).trans h2, hstepw.trans hw,
      by rw [hstepr]; exact hr⟩

end Sys2Proof.Driver
end

section
/-! The moving of bytes, case by case (45_host_driver.md R198, R199), and the byte a DR read returns. -/

namespace Sys2Proof.Driver

open Sys2Proof.Machine

section
variable {budget : Nat} {b : Byte} {s s1 s2 : State} {r : Result}

theorem moveByte_of_txe_failed (h : waitSr txe budget s = (r, s1)) (hr : r ≠ .ok) :
    moveByte budget b s = (r, none, s1) := by
  simp only [moveByte, h]

theorem moveByte_of_rxne_failed (h : waitSr txe budget s = (.ok, s1)) (hr : r ≠ .ok)
    (h2 : waitSr rxne budget (issue (.wrDr (zext b)) s1) = (r, s2)) : moveByte budget b s = (r, none, s2) := by
  simp only [moveByte, h, busWrite_dr, h2]

theorem moveByte_of_both (h : waitSr txe budget s = (.ok, s1))
    (h2 : waitSr rxne budget (issue (.wrDr (zext b)) s1) = (.ok, s2)) : moveByte budget b s =
      (.ok, some (lowByte (returned (issue .rdDr s2))), steps 100 (issue .rdDr s2)) := by
  simp only [moveByte, h, busWrite_dr, h2, busRead_dr]

theorem byteLoop_of_moved {v : Byte} {rest vs : List Byte} (h : moveByte budget b s = (.ok, some v, s1))
    (hrest : byteLoop budget rest s1 = (r, vs, s2)) : byteLoop budget (b :: rest) s = (r, v :: vs, s2) := by
  simp only [byteLoop, h, hrest]

theorem byteLoop_of_failed (h : moveByte budget b s = (r, none, s1)) (rest : List Byte) :
    byteLoop budget (b :: rest) s = (r, [], s1) := by
  simp only [byteLoop, h]

/-- A loop that ends OK moved its first byte and then the others. -/
theorem moved_of_byteLoop_ok {rest vs : List Byte} (h : byteLoop budget (b :: rest) s = (.ok, vs, s2)) :
    ∃ v ws t, moveByte budget b s = (.ok, some v, t) ∧ byteLoop budget rest t = (.ok, ws, s2) ∧ vs = v :: ws := by
  obtain ⟨v, t, hmove⟩ | ⟨r, t, hr, hmove⟩ := moveByte_cases budget b s
  · obtain ⟨hr, hvs, hs⟩ : (byteLoop budget rest t).1 = .ok ∧ v :: (byteLoop budget rest t).2.1 = vs ∧
        (byteLoop budget rest t).2.2 = s2 := by
      simpa only [byteLoop_of_moved hmove rfl, Prod.mk.injEq] using h
    exact ⟨v, (byteLoop budget rest t).2.1, t, hmove, by rw [← hr, ← hs], hvs.symm⟩
  · rw [byteLoop_of_failed hmove] at h
    exact absurd (congrArg Prod.fst h) hr

/-- Bytes that all moved gave one received byte each. -/
theorem length_of_byteLoop_ok {before vs : List Byte} (h : byteLoop budget before s = (.ok, vs, s1)) :
    vs.length = before.length := by
  induction before generalizing s vs with
  | nil => cases h; rfl
  | cons c cs ih =>
    obtain ⟨v, ws, t, _, hrest, rfl⟩ := moved_of_byteLoop_ok h
    exact congrArg (· + 1) (ih hrest)

/-- After bytes that all moved the loop goes on from where they end, and keeps what they received (R199). -/
theorem byteLoop_append {before vs rest ws : List Byte} (h : byteLoop budget before s = (.ok, vs, s1))
    (hrest : byteLoop budget rest s1 = (r, ws, s2)) : byteLoop budget (before ++ rest) s = (r, vs ++ ws, s2) := by
  induction before generalizing s vs with
  | nil => cases h; exact hrest
  | cons c cs ih =>
    obtain ⟨v, us, t, hmove, hcs, rfl⟩ := moved_of_byteLoop_ok h
    exact byteLoop_of_moved hmove (ih hcs)

theorem moveBytes_of_failed {bytes vs : List Byte} (h : byteLoop budget bytes s = (r, vs, s1)) (hr : r ≠ .ok) :
    moveBytes budget bytes s = ((r, vs), (waitSr (fun v => !bsy v) budget s1).2) := by
  simp only [moveBytes, h, if_neg hr]

end

theorem lowByte_zext (b : Byte) : lowByte (zext b) = b := by
  apply BitVec.eq_of_getLsbD_eq
  intro i hi
  simp [lowByte, byteLane, zext, hi, show i < 32 by omega]

theorem returned_issue_rdDr_of_contents {s : State} {c : Byte} {cs : List Byte} (h : s.rx.contents = c :: cs) :
    returned (issue .rdDr s) = zext c := by
  have hlevel : 0 < s.rx.level.val := by simp [← Fifo.length_contents, h]
  obtain ⟨rfl, _⟩ := List.cons.inj ((Fifo.contents_eq_front_cons_pop hlevel).symm.trans h)
  rw [issue_rdDr_of_byte hlevel]
  rfl

theorem returned_issue_rdDr_of_empty {s : State} (h : s.rx.contents = []) : returned (issue .rdDr s) = 0 := by
  rw [issue_rdDr_of_empty (Fifo.contents_eq_nil.mp h)]
  rfl

theorem execAll_rdDr_steps (n : Nat) (s : State) :
    execAll (.rdDr :: List.replicate n .step) s = .next (steps n (issue .rdDr s)) := by
  rw [execAll_eq_issueAll, ← issueAll_replicate_step]
  rfl

theorem issue_rdDr_cycle (s : State) : (issue .rdDr s).cycle = s.cycle := by
  obtain ⟨_, _, _, hpop, _⟩ := drReadPop_frame s
  have hissue : issue .rdDr s = finishRead .dr (drReadValue s) (drReadPop s) := rfl
  rw [hissue, hpop]
  rfl

end Sys2Proof.Driver
end

section
/-! Transfers and hooks, case by case (45_host_driver.md R197 to R203). -/

namespace Sys2Proof.Driver

open Sys2Proof.Machine

theorem rejection_invalid {tx : Option (List Byte)} {d : DriverState}
    (h : d.initialized = false ∨ tx = none ∨ tx = some []) : rejection tx d = some .invalidArgument := if_pos h

theorem rejection_busy {d : DriverState} (hi : d.initialized = true) (hb : d.busy = true) (b : Byte)
    (rest : List Byte) : rejection (some (b :: rest)) d = some .busy := by
  simp [rejection, hi, hb]

theorem rejection_eq_none {tx : Option (List Byte)} {d : DriverState} (h : rejection tx d = none) :
    d.initialized = true ∧ ∃ b rest, tx = some (b :: rest) := by
  have hvalid : ¬(d.initialized = false ∨ tx = none ∨ tx = some []) := fun hinvalid => by
    rw [rejection_invalid hinvalid] at h
    cases h
  obtain ⟨hi, hnull, hempty⟩ : ¬d.initialized = false ∧ ¬tx = none ∧ ¬tx = some [] := by
    simpa only [not_or] using hvalid
  obtain ⟨bytes, rfl⟩ := Option.ne_none_iff_exists'.mp hnull
  obtain ⟨b, rest, rfl⟩ := List.exists_cons_of_ne_nil fun hnil => hempty (congrArg some hnil)
  exact ⟨Bool.eq_true_of_not_eq_false hi, b, rest, rfl⟩

theorem callWith_transfer_rejected {tx : Option (List Byte)} {d : DriverState} {r : Result}
    (h : rejection tx d = some r) (run : Hook → DriverState → Except Stuck DriverState) (rx : Bool) (ms : Word) :
    callWith run (.transfer tx rx ms) d = .ok (.transferred r [], d) := by
  simp only [callWith, transfer, h]

theorem call_transfer_accepted {d : DriverState} (hi : d.initialized = true) (hb : d.busy = false)
    {bytes : List Byte} (hne : bytes ≠ []) (depth : Nat) (rx : Bool) (ms : Word) :
    call depth (.transfer (some bytes) rx ms) d = transferBody (runHook depth) bytes rx ms d := by
  obtain ⟨b, rest, rfl⟩ := List.exists_cons_of_ne_nil hne
  exact transfer_accepted hi hb (runHook depth) b rest rx ms

/-- The driver when a transfer has begun: busy set, the start sampled (R198). -/
def started (d : DriverState) (s : State) : DriverState := { d with busy := true, hw := some (issue (.peek .cycle) s) }

@[simp] theorem started_preHook (d : DriverState) (s : State) : (started d s).preHook = d.preHook := rfl

/-- The driver when the bytes of a transfer that began at cycle `start` have moved and left the block in `t`:
statistics updated, busy cleared (R201, R202). -/
def afterBytes (d : DriverState) (start : Word) (length : Nat) (r : Result) (t : State) : DriverState :=
  { d with
    busy := false
    st := updateStats d.st length (t.cycle - start) r
    hw := some (issue (.peek .cycle) t) }

section
variable {d : DriverState} {s : State} (hs : d.hw = some s) (run : Hook → DriverState → Except Stuck DriverState)
  (bytes : List Byte) (rx : Bool) (ms : Word)
include hs

theorem onBlock_peekCycle_of_busy : onBlock peekCycle { d with busy := true } = .ok (s.cycle, started d s) :=
  onBlock_some (d := { d with busy := true }) hs peekCycle

theorem transferBody_of_pre_error {e : Stuck} (hpre : runOptional run d.preHook (started d s) = .error e) :
    transferBody run bytes rx ms d = .error e := by
  unfold transferBody
  rw [onBlock_peekCycle_of_busy hs]
  simp only [bind, Except.bind, started_preHook, hpre]

theorem transferBody_of_pre_released {d1 : DriverState} (hpre : runOptional run d.preHook (started d s) = .ok d1)
    (hd1 : d1.hw = none) : transferBody run bytes rx ms d = .error .noBlock := by
  unfold transferBody
  rw [onBlock_peekCycle_of_busy hs]
  simp only [bind, Except.bind, started_preHook, hpre, onBlock_none hd1]

/-- The body of a transfer whose pre hook, if any, leaves the driver in `d1`: the bytes move, then the post hook, if
any, runs (R198 to R202). -/
theorem transferBody_of_pre {d1 : DriverState} {s1 t : State} {r : Result} {got : List Byte}
    (hpre : runOptional run d.preHook (started d s) = .ok d1) (hd1 : d1.hw = some s1)
    (hmove : moveBytes (ms.toNat * 1000) bytes s1 = ((r, got), t)) : transferBody run bytes rx ms d =
      (runOptional run (d1.postHook.map fun h => h r) (afterBytes d1 s.cycle bytes.length r t)).map
        fun d3 => (.transferred r (if rx then got else []), d3) := by
  unfold transferBody
  rw [onBlock_peekCycle_of_busy hs]
  simp only [bind, Except.bind, started_preHook, hpre, onBlock, hd1, hmove, pure, Except.pure, Except.map,
    peekCycle_fst, peekCycle_snd]
  rfl

theorem transferBody_of_pre_no_post {d1 : DriverState} {s1 t : State} {r : Result} {got : List Byte}
    (hpre : runOptional run d.preHook (started d s) = .ok d1) (hd1 : d1.hw = some s1)
    (hmove : moveBytes (ms.toNat * 1000) bytes s1 = ((r, got), t)) (hpost : d1.postHook = none) :
    transferBody run bytes rx ms d =
      .ok (.transferred r (if rx then got else []), afterBytes d1 s.cycle bytes.length r t) := by
  rw [transferBody_of_pre hs run bytes rx ms hpre hd1 hmove, hpost]
  rfl

end

theorem runOptional_of_some {h? : Option Hook} {h : Hook} (hh : h? = some h)
    (run : Hook → DriverState → Except Stuck DriverState) (d : DriverState) : runOptional run h? d = run h d := by
  rw [hh]; rfl

theorem runOptional_of_none {h? : Option Hook} (hh : h? = none)
    (run : Hook → DriverState → Except Stuck DriverState) (d : DriverState) : runOptional run h? d = .ok d := by
  rw [hh]; rfl

theorem runHookWith_op {d : DriverState} {s : State} (h : d.hw = some s)
    (call : Call → DriverState → Except Stuck (Reply × DriverState)) (i : Instr) (next : Option Word → Hook) :
    runHookWith call (.op i next) d = runHookWith call (next (issue i s).result) { d with hw := some (issue i s) } := by
  simp only [runHookWith, onBlock_some h]

theorem runHookWith_call {call : Call → DriverState → Except Stuck (Reply × DriverState)} {c : Call}
    {d d' : DriverState} {r : Reply} (h : call c d = .ok (r, d')) (next : Reply → Hook) :
    runHookWith call (.call c next) d = runHookWith call (next r) d' := by
  simp only [runHookWith, h]

/-- At every depth a hook runs with the driver's calls, whatever runs the hooks of those. -/
theorem runHook_eq (depth : Nat) : ∃ run, runHook depth = runHookWith (callWith run) := by
  cases depth with
  | zero => exact ⟨_, rfl⟩
  | succ depth => exact ⟨_, rfl⟩

theorem runHook_op {d : DriverState} {s : State} (h : d.hw = some s) (depth : Nat) (i : Instr)
    (next : Option Word → Hook) :
    runHook depth (.op i next) d = runHook depth (next (issue i s).result) { d with hw := some (issue i s) } := by
  obtain ⟨run, hrun⟩ := runHook_eq depth
  rw [hrun, runHookWith_op h]

theorem runHook_transfer_busy {d : DriverState} (hi : d.initialized = true) (hb : d.busy = true) (depth : Nat)
    (b : Byte) (rest : List Byte) (rx : Bool) (ms : Word) (next : Reply → Hook) :
    runHook depth (.call (.transfer (some (b :: rest)) rx ms) next) d =
      runHook depth (next (.transferred .busy [])) d := by
  obtain ⟨run, hrun⟩ := runHook_eq depth
  rw [hrun, runHookWith_call (callWith_transfer_rejected (rejection_busy hi hb b rest) run rx ms)]

theorem runHook_done (depth : Nat) (d : DriverState) : runHook depth .done d = .ok d := by
  obtain ⟨run, hrun⟩ := runHook_eq depth
  rw [hrun]
  rfl

end Sys2Proof.Driver
end

section
/-! The calls that move no byte, case by case (45_host_driver.md R204, R206). -/

namespace Sys2Proof.Driver

open Sys2Proof.Machine

theorem setBaudrate_initialized {d : DriverState} {s : State} (hi : d.initialized = true) (h : d.hw = some s)
    (baud : Int) : setBaudrate baud d =
      .ok (.ok, { d with cfg := { d.cfg with baud := baud }, hw := some (rewritePrescaler baud s) }) := by
  simp [setBaudrate, hi, onBlock_some h]

theorem setBaudrate_uninitialized {d : DriverState} (hi : d.initialized = false) (baud : Int) :
    setBaudrate baud d = .ok (.invalidArgument, d) := by
  simp [setBaudrate, hi]

theorem call_setBaudrate {d d' : DriverState} {baud : Int} {r : Result} (h : setBaudrate baud d = .ok (r, d'))
    (depth : Nat) : call depth (.setBaudrate baud) d = .ok (.code r, d') := by
  simp only [call, callWith, h]

theorem getEfficiency_eq_zero {d : DriverState} (h : d.st.bytes = 0 ∨ d.st.latency = 0) : getEfficiency d = 0 :=
  if_pos h

theorem getEfficiency_mul_latency {d : DriverState} (hb : d.st.bytes ≠ 0) (hl : d.st.latency ≠ 0) :
    getEfficiency d * (d.st.latency.toNat : Rat) = (d.st.bytes.toNat : Rat) * 1000 := by
  have hlat : (d.st.latency.toNat : Rat) ≠ 0 := Nat.cast_ne_zero.mpr fun h => hl (BitVec.eq_of_toNat_eq h)
  rw [getEfficiency, if_neg (not_or.mpr ⟨hb, hl⟩)]
  field_simp
  ring

end Sys2Proof.Driver
end

section
/-! The block that waits in vain for RXNE (45_host_driver.md R210): what its waits and its transfers do. -/

namespace Sys2Proof.Driver

open Sys2Proof.Machine

/-- RXNE and BSY clear. -/
def Quiet (s : State) : Prop := s.sr.getLsbD 0 = false ∧ s.sr.getLsbD 7 = false

/-- The part of `TransmitWait` that is about the block. -/
def Waiting (s : State) : Prop :=
  s.cr1.getLsbD 6 = true ∧ s.sr.getLsbD 1 = true ∧ s.sr.getLsbD 0 = false ∧ s.sr.getLsbD 7 = false ∧
    (s.state = .idle ∨ s.state = .txActive)

theorem Waiting.txe_set {s : State} (h : Waiting s) : txe s.sr = true :=
  let ⟨_, htxe, _⟩ := h
  htxe

theorem Waiting.rxne_clear {s : State} (h : Waiting s) : rxne s.sr = false :=
  let ⟨_, _, h0, _⟩ := h
  h0

theorem Waiting.bsy_clear {s : State} (h : Waiting s) : bsy s.sr = false :=
  let ⟨_, _, _, h7, _⟩ := h
  h7

/-- Enabled in TX_ACTIVE with TXE set or 16 bytes waiting: what a waiting block is after one STEP. -/
def Sending (s : State) : Prop :=
  s.cr1.getLsbD 6 = true ∧ s.state = .txActive ∧ Quiet s ∧ (s.sr.getLsbD 1 = true ∨ 16 ≤ s.tx.level.val)

theorem Sending.rxne_clear {s : State} (h : Sending s) : rxne s.sr = false :=
  let ⟨_, _, ⟨h0, _⟩, _⟩ := h
  h0

theorem Waiting.of_transmitting {s : State} (h : Transmitting s) (hq : Quiet s) : Waiting s :=
  let ⟨hspe, hs, htxe⟩ := h
  let ⟨h0, h7⟩ := hq
  ⟨hspe, htxe, h0, h7, .inr hs⟩

/-! Polls and steps. -/

theorem Waiting.issue_rdSr {s : State} (h : Waiting s) : Waiting (issue .rdSr s) := by
  rwa [issue_rdSr_eq]

theorem Sending.issue_rdSr {s : State} (h : Sending s) : Sending (issue .rdSr s) := by
  rwa [issue_rdSr_eq]

/-- A STEP sets RXNE in RX_ACTIVE alone, and never BSY (R29, R143). -/
theorem issue_step_quiet {s : State} (hs : s.state ≠ .rxActive) (h : Quiet s) : Quiet (issue .step s) := by
  obtain ⟨h0, h7⟩ := h
  refine ⟨?_, ?_⟩
  · by_contra hne
    obtain ⟨_, hk | ⟨_, hrx⟩⟩ := issue_step_getLsbD_sr (s := s) (k := 0) fun heq => hne (heq.trans h0)
    · cases hk
    · exact hs hrx
  · by_contra hne
    obtain ⟨_, hk | ⟨hk, _⟩⟩ := issue_step_getLsbD_sr (s := s) (k := 7) fun heq => hne (heq.trans h7)
    · cases hk
    · cases hk

/-- A STEP in TX_ACTIVE leaves at most 15 bytes waiting, so TXE set; it does not leave TX_ACTIVE if TXE was set or the
transmit FIFO full (R142). -/
theorem issue_step_of_sending {s : State} (h : Sending s) : Transmitting (issue .step s) ∧ Quiet (issue .step s) := by
  obtain ⟨hspe, hs, hq, htx⟩ := h
  refine ⟨⟨(congrArg (·.getLsbD 6) (issue_step_cr1 s)).trans hspe, ?_, ?_⟩, issue_step_quiet (by simp [hs]) hq⟩
  · rw [issue_step_state, tableNext_txActive hspe hs, if_neg]
    rintro ⟨hempty, hclear⟩
    obtain htxe | hfull := htx
    · cases htxe.symm.trans hclear
    · unfold txLevelAfter at hempty
      omega
  · rw [issue_step_txe hspe, issue_step_tx, stepMoved_tx_level hspe hs, txLevelAfter, decide_eq_true_eq]
    omega

/-- The first STEP of a waiting block ends in TX_ACTIVE, and leaves TXE set but for a transmit FIFO that is full. -/
theorem issue_step_of_waiting {s : State} (h : Waiting s) : Sending (issue .step s) := by
  obtain ⟨hspe, htxe, h0, h7, hs⟩ := h
  have hnotrx : s.state ≠ .rxActive := fun hrx => by simp [hrx] at hs
  refine ⟨(congrArg (·.getLsbD 6) (issue_step_cr1 s)).trans hspe, ?_, issue_step_quiet hnotrx ⟨h0, h7⟩, ?_⟩
  · rw [issue_step_state]
    obtain hs | hs := hs
    · rw [tableNext_idle hspe hs, if_pos (.inr htxe)]
    · rw [tableNext_txActive hspe hs, if_neg fun ⟨_, hclear⟩ => by cases htxe.symm.trans hclear]
  · rw [issue_step_txe hspe, decide_eq_true_eq]
    exact Nat.lt_or_ge _ _

/-! Waits. -/

theorem waitSr_keeps_transmitting {s : State} (h : Transmitting s) (hq : Quiet s) (pred : Word → Bool) (b : Nat) :
    Transmitting (waitSr pred b s).2 ∧ Quiet (waitSr pred b s).2 := by
  refine waitSr_keeps (P := fun t => Transmitting t ∧ Quiet t) (fun t ht => ht) (fun t ⟨ht, hqt⟩ => ?_) pred b ⟨h, hq⟩
  refine ⟨issue_step_keeps_transmitting ht, issue_step_quiet (fun hrx => ?_) hqt⟩
  obtain ⟨_, hs, _⟩ := ht
  cases hs.symm.trans hrx

/-- One step alone could leave TXE clear, with 16 bytes written in IDLE; the second takes one of them. -/
theorem waitSr_rxne_keeps_waiting {s : State} (h : Waiting s) {b : Nat} (hb : b ≠ 1) :
    Waiting (waitSr rxne b s).2 := by
  match b, hb with
  | 0, _ =>
    rw [waitSr_timeout h.rxne_clear]
    exact h.issue_rdSr
  | b + 2, _ =>
    have hfirst : Sending (issue .step (issue .rdSr s)) := issue_step_of_waiting h.issue_rdSr
    rw [waitSr_step h.rxne_clear, waitSr_step hfirst.rxne_clear]
    obtain ⟨htx, hq⟩ := issue_step_of_sending hfirst.issue_rdSr
    obtain ⟨htx', hq'⟩ := waitSr_keeps_transmitting htx hq rxne b
    exact .of_transmitting htx' hq'

theorem waitSr_rxne_of_waiting {s : State} (h : Waiting s) {b : Nat} (hb : b ≠ 1) :
    ∃ t, waitSr rxne b s = (.timeout, t) ∧ Waiting t ∧ t.cycle = s.cycle + BitVec.ofNat 32 b := by
  have hkept := waitSr_rxne_keeps_waiting h hb
  obtain ⟨_, hrxne, _⟩ | ⟨hr, _, hcycle⟩ := waitSr_cases rxne b s
  · cases hrxne.symm.trans hkept.rxne_clear
  · exact ⟨_, Prod.ext hr rfl, hkept, hcycle⟩

/-! Bytes. -/

theorem issue_wrDr_frame (v : Word) (s : State) : ∃ tx n c, issue (.wrDr v) s =
    { s with tx := tx, txcount := n, wcov := c, result := none } := by
  obtain ⟨tx, n, hpush⟩ := drWritePush_frame v (coverWrite .dr v s)
  exact ⟨tx, n, _, congrArg (answer none) hpush⟩

theorem moveByte_of_waiting {s : State} (h : Waiting s) {budget : Nat} (hb : budget ≠ 1) (b : Byte) :
    ∃ t, moveByte budget b s = (.timeout, none, t) ∧ Waiting t ∧ t.cycle = s.cycle + BitVec.ofNat 32 budget := by
  have hfirst : waitSr txe budget s = (.ok, issue .rdSr s) := waitSr_ok h.txe_set budget
  obtain ⟨tx, n, c, hwrite⟩ := issue_wrDr_frame (zext b) (issue .rdSr s)
  have hwritten : Waiting (issue (.wrDr (zext b)) (issue .rdSr s)) := by rw [hwrite]; exact h
  obtain ⟨t, hsecond, ht, hcycle⟩ := waitSr_rxne_of_waiting hwritten hb
  rw [hwrite] at hcycle
  exact ⟨t, moveByte_of_rxne_failed hfirst (by decide) hsecond, ht, hcycle⟩

/-- The first byte's RXNE wait fails, and the BSY wait after it ends at its first poll (R200, R210). -/
theorem moveBytes_of_waiting {s : State} (h : Waiting s) {budget : Nat} (hb : budget ≠ 1) (b : Byte)
    (rest : List Byte) : ∃ t, moveBytes budget (b :: rest) s = ((.timeout, []), t) ∧ Waiting t ∧
      t.cycle = s.cycle + BitVec.ofNat 32 budget := by
  obtain ⟨t, hmove, ht, hcycle⟩ := moveByte_of_waiting h hb b
  have hmoves := moveBytes_of_failed (byteLoop_of_failed hmove rest) (by decide)
  rw [waitSr_ok (by rw [ht.bsy_clear]; rfl)] at hmoves
  exact ⟨issue .rdSr t, hmoves, ht, hcycle⟩

/-! The driver. -/

theorem transmitWait_iff (d : DriverState) : TransmitWait d ↔
    d.preHook = none ∧ d.postHook = none ∧ d.hw.isSome = d.initialized ∧
      ∀ s, d.hw = some s → d.busy = false ∧ Waiting s := Iff.rfl

theorem transmitWait_of_block {d : DriverState} {s : State} (hpre : d.preHook = none) (hpost : d.postHook = none)
    (hi : d.initialized = true) (hs : d.hw = some s) (hb : d.busy = false) (h : Waiting s) : TransmitWait d := by
  refine (transmitWait_iff d).mpr ⟨hpre, hpost, by rw [hs, hi]; rfl, fun t ht => ?_⟩
  obtain rfl := Option.some.inj (hs.symm.trans ht)
  exact ⟨hb, h⟩

theorem transmitWait_of_no_block {d : DriverState} (hpre : d.preHook = none) (hpost : d.postHook = none)
    (hi : d.initialized = false) (hs : d.hw = none) : TransmitWait d :=
  (transmitWait_iff d).mpr ⟨hpre, hpost, by rw [hs, hi]; rfl, fun t ht => by cases hs.symm.trans ht⟩

theorem TransmitWait.block {d : DriverState} (h : TransmitWait d) (hi : d.initialized = true) :
    ∃ s, d.preHook = none ∧ d.postHook = none ∧ d.hw = some s ∧ d.busy = false ∧ Waiting s := by
  obtain ⟨hpre, hpost, hown, hblock⟩ := (transmitWait_iff d).mp h
  obtain ⟨s, hs⟩ := Option.isSome_iff_exists.mp (hown.trans hi)
  obtain ⟨hb, hwait⟩ := hblock s hs
  exact ⟨s, hpre, hpost, hs, hb, hwait⟩

theorem call_transfer_of_transmitWait {d : DriverState} (h : TransmitWait d) (hi : d.initialized = true) (depth : Nat)
    (b : Byte) (rest : List Byte) (rx : Bool) (ms : Word) :
    ∃ d' s t, d.hw = some s ∧
      call depth (.transfer (some (b :: rest)) rx ms) d = .ok (.transferred .timeout [], d') ∧ d'.hw = some t ∧
      t.cycle = s.cycle + BitVec.ofNat 32 (ms.toNat * 1000) ∧ TransmitWait d' := by
  obtain ⟨s, hpre, hpost, hs, hb, hwait⟩ := h.block hi
  have hbudget : ms.toNat * 1000 ≠ 1 := by omega
  obtain ⟨t, hmoves, ht, hcycle⟩ := moveBytes_of_waiting (s := issue (.peek .cycle) s) hwait hbudget b rest
  have hbody := transferBody_no_hooks hs hpre hpost (runHook depth) (b :: rest) rx ms
  simp only [hmoves, ite_self] at hbody
  exact ⟨_, s, issue (.peek .cycle) t, hs,
    (call_transfer_accepted hi hb (List.cons_ne_nil b rest) depth rx ms).trans hbody, rfl, hcycle,
    transmitWait_of_block hpre hpost hi rfl rfl ht⟩

theorem waiting_rewritePrescaler {s : State} (h : Waiting s) (baud : Int) : Waiting (rewritePrescaler baud s) := by
  obtain ⟨hspe, hrest⟩ := h
  rw [rewritePrescaler_eq]
  exact ⟨((getLsbD_withBr _ _ 6).trans (if_neg (by decide))).trans hspe, hrest⟩

theorem waiting_initWrites (cfg : Config.DriverConfig) : Waiting (issueAll (initWrites cfg) State.reset) := by
  rw [issueAll_initWrites_reset]
  have hsr : State.reset.sr.getLsbD 1 = true ∧ State.reset.sr.getLsbD 0 = false ∧ State.reset.sr.getLsbD 7 = false := by
    decide
  obtain ⟨h1, h0, h7⟩ := hsr
  exact ⟨by simp, h1, h0, h7, .inl rfl⟩

/-- Every call keeps the wait (R210). -/
theorem call_keeps_transmitWait (depth : Nat) (c : Call) {d : DriverState} (h : TransmitWait d) :
    ∃ reply d', call depth c d = .ok (reply, d') ∧ TransmitWait d' := by
  obtain ⟨hpre, hpost, _⟩ := (transmitWait_iff d).mp h
  cases c with
  | init created cfg? =>
    cases created with
    | false => exact ⟨_, d, rfl, h⟩
    | true => exact ⟨_, _, rfl, transmitWait_of_block hpre hpost rfl rfl rfl (waiting_initWrites _)⟩
  | transfer tx rx ms =>
    cases hrej : rejection tx d with
    | some r => exact ⟨_, d, callWith_transfer_rejected hrej (runHook depth) rx ms, h⟩
    | none =>
      obtain ⟨hi, b, rest, rfl⟩ := rejection_eq_none hrej
      obtain ⟨d', _, _, _, hcall, _, _, hd'⟩ := call_transfer_of_transmitWait h hi depth b rest rx ms
      exact ⟨_, d', hcall, hd'⟩
  | setBaudrate baud =>
    cases hi : d.initialized with
    | false => exact ⟨_, d, call_setBaudrate (setBaudrate_uninitialized hi baud) depth, h⟩
    | true =>
      obtain ⟨s, _, _, hs, hb, hwait⟩ := h.block hi
      exact ⟨_, _, call_setBaudrate (setBaudrate_initialized hi hs baud) depth,
        transmitWait_of_block hpre hpost hi rfl hb (waiting_rewritePrescaler hwait baud)⟩
  | getStatus | getEfficiency | dma => exact ⟨_, d, rfl, h⟩
  | deinitialize => exact ⟨_, _, rfl, transmitWait_of_no_block hpre hpost rfl rfl⟩

theorem callAll_keeps_transmitWait {depth : Nat} {calls : List Call} {d0 d : DriverState} (h : TransmitWait d0)
    (hcalls : callAll depth calls d0 = .ok d) : TransmitWait d := by
  induction calls generalizing d0 with
  | nil => cases hcalls; exact h
  | cons c cs ih =>
    obtain ⟨reply, d1, hcall, hd1⟩ := call_keeps_transmitWait depth c h
    simp only [callAll, hcall] at hcalls
    exact ih hd1 hcalls

end Sys2Proof.Driver
end

section
/-! The obligations about the host driver. -/

namespace Sys2Proof.Driver

open Sys2Proof.Machine

/-- Settles O47: the fields of CR1 and CR2 do not overlap, so each bit is that of one field. -/
theorem driverEncodesTheConfiguration : Obligations.DriverEncodesTheConfiguration := by
  intro cfg
  rw [br_cr1Of, brCode]
  refine ⟨⟨getLsbD_cr1Of cfg 0, getLsbD_cr1Of cfg 1, getLsbD_cr1Of cfg 2, fun h1 => if_pos h1, fun ⟨h1, h2⟩ => ?_,
    fun h2 => ?_, ?_, fun k h6 h11 => ?_⟩, getLsbD_cr2Of cfg⟩
  · rw [if_neg (by omega), if_pos h2]
  · rw [if_neg (by omega), if_neg (by omega)]
  · rw [getLsbD_cr1Of]; exact beq_iff_eq
  · simp (disch := omega) only [getLsbD_cr1Of, if_neg]

/-- Settles O49: by induction on the budget; a poll and a step keep what the statement says is kept. -/
theorem waitIsBoundedByItsBudget : Obligations.WaitIsBoundedByItsBudget := by
  intro pred b s
  obtain ⟨hcr1, hcr2, hwcov, hrcov⟩ := waitSr_sameButPolls pred b s
  obtain ⟨hr, hp, hn⟩ | ⟨hr, hp, hc⟩ := waitSr_cases pred b s
  · exact ⟨_, _, rfl, .inl hr, fun _ => hp, fun h => by simp [hr] at h, hn, hcr1, hcr2, hwcov, hrcov⟩
  · exact ⟨_, _, rfl, .inr hr, fun h => by simp [hr] at h, fun _ => ⟨hp, hc⟩, ⟨b, le_refl b, hc⟩, hcr1, hcr2, hwcov,
      hrcov⟩

/-- Settles O60: call by call; a transfer times out in its first RXNE wait and leaves the block waiting. -/
theorem everyDriverCallKeepsTheTransmitWait : Obligations.EveryDriverCallKeepsTheTransmitWait :=
  fun depth c _ h => call_keeps_transmitWait depth c h

/-- Settles O51: the calls before the transfer keep the wait, which the driver without a block meets. -/
theorem driverOnlyTransfersTimeOut : Obligations.DriverOnlyTransfersTimeOut := by
  intro depth d0 d calls b rest rx ms hi0 hhw hpre hpost hcalls hi
  have hwait : TransmitWait d := callAll_keeps_transmitWait (transmitWait_of_no_block hpre hpost hi0 hhw) hcalls
  obtain ⟨d', s, t, hs, hcall, ht, hcycle, _⟩ := call_transfer_of_transmitWait hwait hi depth b rest rx ms
  exact ⟨d', s, t, hs, hcall, ht, hcycle⟩

/-- Settles O52: a read and a write of CR1, with the field's three bits replaced. -/
theorem setBaudrateRewritesThePrescaler : Obligations.SetBaudrateRewritesThePrescaler := by
  refine fun depth d baud => ⟨fun hi => call_setBaudrate (setBaudrate_uninitialized hi baud) depth,
    fun s hi hs => ⟨_, call_setBaudrate (setBaudrate_initialized hi hs baud) depth, ?_⟩⟩
  rw [rewritePrescaler_eq]
  refine ⟨br_withBr _ _, fun k hk => ?_, rfl⟩
  exact (getLsbD_withBr _ _ k).trans (if_neg (by omega))

/-- Settles O56: the body stops where the pre hook does, and else ends with the post hook on the driver after the
bytes. -/
theorem hooksRunAroundTheTransfer : Obligations.HooksRunAroundTheTransfer := by
  intro depth d s b rest rx ms hi hb hs
  rw [call_transfer_accepted hi hb (List.cons_ne_nil b rest)]
  refine ⟨fun h e hh he => ?_, fun h d1 hh hd1 hreleased => ?_, fun d1 s1 hpre hs1 => ?_⟩
  · exact transferBody_of_pre_error hs _ _ rx ms ((runOptional_of_some hh _ _).trans he)
  · exact transferBody_of_pre_released hs _ _ rx ms ((runOptional_of_some hh _ _).trans hd1) hreleased
  · have hrun : runOptional (runHook depth) d.preHook (started d s) = .ok d1 := by
      obtain ⟨hnone, rfl⟩ | ⟨h, hsome, hrun⟩ := hpre
      · exact runOptional_of_none hnone _ _
      · exact (runOptional_of_some hsome _ _).trans hrun
    obtain ⟨r, got, t, hmove⟩ : ∃ r got t, moveBytes (ms.toNat * 1000) (b :: rest) s1 = ((r, got), t) :=
      ⟨_, _, _, rfl⟩
    have hbody := transferBody_of_pre hs (runHook depth) (b :: rest) rx ms hrun hs1 hmove
    refine ⟨r, got, t, afterBytes d1 s.cycle (b :: rest).length r t, hmove, rfl,
      transferBody_of_pre_no_post hs (runHook depth) (b :: rest) rx ms hrun hs1 hmove,
      fun h hsome => ⟨fun d3 hd3 => ?_, fun e he => ?_⟩⟩
    · rw [hbody, hsome, Option.map_some, runOptional, hd3]; rfl
    · rw [hbody, hsome, Option.map_some, runOptional, he]; rfl

/-- Settles O57: the call is rejected and changes nothing, so the pre hook leaves the driver as it found it. -/
theorem transferFromAHookReceivesBusy : Obligations.TransferFromAHookReceivesBusy := by
  refine ⟨fun depth d s i next hs => ⟨_, exec_eq_issue i s, runHook_op hs depth i next⟩,
    fun depth d b rest rx ms next hi hb => runHook_transfer_busy hi hb depth b rest rx ms next, ?_⟩
  intro depth d s b b' rest rest' rx rx' ms ms' next hi hb hs hpost hpre hnext
  have hrun : runOptional (runHook depth) d.preHook (started d s) = .ok (started d s) := by
    rw [runOptional_of_some hpre, runHook_transfer_busy (d := started d s) hi rfl, hnext, runHook_done]
  obtain ⟨r, got, t, hmove⟩ : ∃ r got t, moveBytes (ms.toNat * 1000) (b :: rest) (issue (.peek .cycle) s) =
      ((r, got), t) := ⟨_, _, _, rfl⟩
  have hne : b :: rest ≠ [] := List.cons_ne_nil b rest
  exact ⟨.transferred r (if rx then got else []), _,
    (call_transfer_accepted (d := { d with preHook := none }) hi hb hne depth rx ms).trans
      (transferBody_of_pre_no_post (d := { d with preHook := none }) hs _ (b :: rest) rx ms rfl rfl hmove hpost),
    (call_transfer_accepted hi hb hne depth rx ms).trans
      (transferBody_of_pre_no_post hs _ (b :: rest) rx ms hrun rfl hmove hpost)⟩

/-- Settles O58: the three ends of `moveByte`; the DR read returns the front of the receive FIFO, or 0. -/
theorem byteMovesWhenBothWaitsSucceed : Obligations.ByteMovesWhenBothWaitsSucceed := by
  intro budget b s s1 r hfirst
  refine ⟨fun hr => moveByte_of_txe_failed hfirst hr, ?_⟩
  rintro rfl s2 s3 r' hwrite hsecond
  obtain rfl : s2 = issue (.wrDr (zext b)) s1 := eq_issue_of_exec hwrite
  refine ⟨fun hr => moveByte_of_rxne_failed hfirst hr hsecond, ?_⟩
  rintro rfl
  refine ⟨_, _, moveByte_of_both hfirst hsecond, fun c cs hrx => ?_, fun hrx => ?_, ?_, ?_⟩
  · rw [returned_issue_rdDr_of_contents hrx, lowByte_zext]
  · rw [returned_issue_rdDr_of_empty hrx]; rfl
  · exact execAll_rdDr_steps 100 s3
  · rw [steps_cycle, issue_rdDr_cycle]; rfl

/-- Settles O59: the loop goes on from the bytes that moved, and the failed one ends it with their received bytes. -/
theorem completedBytesSurviveATimeout : Obligations.CompletedBytesSurviveATimeout := by
  intro budget before rest vs b s s1 s2 r hbefore hfailed hr
  have hloop : byteLoop budget (before ++ b :: rest) s = (r, vs, s2) := by
    have h := byteLoop_append hbefore (byteLoop_of_failed hfailed rest)
    rwa [List.append_nil] at h
  refine ⟨length_of_byteLoop_ok hbefore, hloop, ?_⟩
  rintro depth d s0 ms hi hb hpre hpost hs rfl rfl
  rw [call_transfer_accepted hi hb (by simp), transferBody_no_hooks hs hpre hpost, moveBytes_of_failed hloop hr]
  exact ⟨_, rfl⟩

/-- Settles O46: the three writes on the reset state. -/
theorem driverInitEnablesAFreshBlock : Obligations.DriverInitEnablesAFreshBlock := by
  rintro depth cfg? cfg d rfl
  refine ⟨rfl, ?_⟩
  rw [← issueAll_initWrites_reset]
  rfl

/-- Settles O48: the two checks, in order. -/
theorem rejectedTransfersChangeNothing : Obligations.RejectedTransfersChangeNothing := by
  intro depth d tx rx ms
  refine ⟨fun h => callWith_transfer_rejected (rejection_invalid h) _ rx ms, ?_⟩
  rintro b rest hi hb rfl
  exact callWith_transfer_rejected (rejection_busy hi hb b rest) _ rx ms

/-- Settles O50: the body without hooks, in one equation. -/
theorem transferStatisticsAreUnconditional : Obligations.TransferStatisticsAreUnconditional := by
  intro depth d s b rest rx ms hi hb hs hpre hpost
  rw [call_transfer_accepted hi hb (by simp), transferBody_no_hooks hs hpre hpost, ← hb]
  exact ⟨_, _, issue (.peek .cycle) (moveBytes (ms.toNat * 1000) (b :: rest) (issue (.peek .cycle) s)).2, rfl⟩

/-- Settles O53: only deinitialize changes the driver, and a transfer needs an initialized one. -/
theorem otherDriverCallsIssueNothing : Obligations.OtherDriverCallsIssueNothing :=
  fun depth d => ⟨rfl, ⟨getEfficiency d, rfl, getEfficiency_eq_zero, getEfficiency_mul_latency⟩, rfl, _, rfl, rfl,
    fun _ rx ms => callWith_transfer_rejected (rejection_invalid (.inl rfl)) (runHook depth) rx ms⟩

end Sys2Proof.Driver
end

section
/-! The obligation about exceptions (60_exceptions.md R230). -/

namespace Sys2Proof.Machine

/-- Settles O10: what an operation completes with is `issue`; a step never faults because the model has no fault to
raise. -/
theorem everyOperationCompletes : Obligations.EveryOperationCompletes :=
  ⟨fun i s => ⟨issue i s, exec_eq_issue i s⟩, fun _ f => nomatch f⟩

end Sys2Proof.Machine
end

section
/-! The cost of an operation in cycles, and a byte's way from DR to the line (70_reset_and_hazards.md R255, R261, R262). -/

namespace Sys2Proof.Machine

/-- STEP and RESET apart, every operation costs no cycle (R261). -/
theorem issue_cycle_of_ne {i : Instr} (hstep : i ≠ .step) (hreset : i ≠ .reset) (s : State) :
    (issue i s).cycle = s.cycle := by
  cases i with
  | step => exact absurd rfl hstep
  | reset => exact absurd rfl hreset
  | forceState q => exact setState_cycle s q
  | rdDr => exact Driver.issue_rdDr_cycle s
  | wrDr v =>
    obtain ⟨_, _, _, hframe⟩ := Driver.issue_wrDr_frame v s
    rw [hframe]
  | rdCr1 | rdCr2 | rdSr | rdUnmapped _ | wrCr1 _ | wrCr2 _ | wrSr _ | wrUnmapped _ _ | pokeSr _ | peek _ => rfl

/-- Of the write's effects (R104), none is on CR1, the FSM state or the trace. -/
theorem issue_wrDr_keeps (v : Word) (s : State) : (issue (.wrDr v) s).cr1 = s.cr1 ∧
    (issue (.wrDr v) s).state = s.state ∧ (issue (.wrDr v) s).trace = s.trace := by
  obtain ⟨_, _, _, hframe⟩ := Driver.issue_wrDr_frame v s
  rw [hframe]
  exact ⟨rfl, rfl, rfl⟩

theorem issue_wrDr_contents_of_empty {s : State} (hempty : s.tx.contents = []) (v : Word) :
    (issue (.wrDr v) s).tx.contents = [lowByte v] := by
  have hroom : s.tx.level.val < 16 := by simp [Fifo.contents_eq_nil.mp hempty]
  rw [issue_wrDr_of_lt hroom]
  exact (Fifo.contents_push hroom (lowByte v)).trans (by rw [hempty, List.nil_append])

/-- The IDLE arm with a byte waiting enters TX_ACTIVE and moves nothing (R138). -/
theorem issue_step_of_idle_waiting {s : State} (hspe : spe s.cr1 = true) (hs : s.state = .idle)
    (hwaiting : s.tx.contents ≠ []) : (issue .step s).state = .txActive ∧ (issue .step s).tx = s.tx ∧
      (issue .step s).trace = s.trace ++ [.stateChange .idle .txActive] := by
  have hlevel : 0 < s.tx.level.val := Nat.pos_of_ne_zero (mt Fifo.contents_eq_nil.mpr hwaiting)
  have hnext : tableNext s = .txActive := by rw [tableNext_idle hspe hs, if_pos (.inl hlevel)]
  obtain ⟨htx, _, _, htrace⟩ := issue_step_of_no_byte (s := s) (not_movesByte_of_ne (by simp [hs]))
  rw [hnext, hs] at htrace
  exact ⟨(issue_step_state s).trans hnext, htx, htrace⟩

end Sys2Proof.Machine
end

section
/-! The obligations about the cost of an operation and the way of a byte (70_reset_and_hazards.md). -/

namespace Sys2Proof.Machine

/-- Settles O31: the first step only enters TX_ACTIVE, with the written byte alone waiting; the second is the step of
`transmitStepMovesOneByte`. -/
theorem dataWriteInIdleIsOutInTwoSteps : Obligations.DataWriteInIdleIsOutInTwoSteps := by
  intro s v hspe hs hempty
  obtain ⟨hcr1, hstate, htrace⟩ := issue_wrDr_keeps v s
  have hbytes : (issue (.wrDr v) s).tx.contents = [lowByte v] := issue_wrDr_contents_of_empty hempty v
  have hon : spe (issue (.wrDr v) s).cr1 = true := hcr1 ▸ hspe
  obtain ⟨hactive, htx, hentered⟩ := issue_step_of_idle_waiting hon (hstate.trans hs) (by simp [hbytes])
  rw [htrace] at hentered
  refine ⟨⟨_, execAll_eq_issueAll _ s, hentered⟩, _, execAll_eq_issueAll _ s, ?_⟩
  obtain ⟨t, hexec, hdrained, _, _, _, _, _, _, _, _, _, hout⟩ :=
    transmitStepMovesOneByte _ _ _ ((issue_step_cr1 _).symm ▸ hon) hactive (htx ▸ hbytes)
  obtain rfl := eq_issue_of_exec hexec
  rw [hentered, List.append_assoc] at hout
  exact ⟨hdrained, hout⟩

/-- Settles O22: STEP's cycle by `issue_step_cycle`, RESET's by its power-on record, the others' by
`issue_cycle_of_ne`. -/
theorem onlyStepAdvancesTheCycle : Obligations.OnlyStepAdvancesTheCycle := by
  refine ⟨fun s => ⟨_, exec_eq_issue .step s, ?_⟩, fun i s hstep => ⟨_, exec_eq_issue i s, ?_⟩⟩
  · rw [issue_step_cycle]
    exact BitVec.toNat_add s.cycle 1
  · by_cases hreset : i = .reset
    · subst hreset
      rfl
    · rw [if_neg hreset, issue_cycle_of_ne hstep hreset]

end Sys2Proof.Machine
end
